-- ==== Sys2Proof/Word.lean ====
section
/-! DEFINITION. The word types of UPXL-ENC: the fixed widths of 00_scope.md rule R11 and the packed host transaction of
30_encoding.md rule R80. -/

namespace Sys2Proof

/-- A u8: channel id, record type, color order, brightness, one payload or pixel byte (R11). -/
abbrev Byte := BitVec 8

/-- A u16: the pixel count (R11, R35). -/
abbrev Half := BitVec 16

/-- A u32: the host port's data, the frequency and every checksum (R11, R46). -/
abbrev Word := BitVec 32

/-- The 41-bit packed host transaction: W in bit 40, OFF in bits 39 to 32, DATA in bits 31 to 0 (R80). -/
abbrev TxnWord := BitVec 41

end Sys2Proof
end

