-- ==== Sys2Proof/Syntax.lean ====
section
/-! DEFINITION. The instructions of UPXL-ENC: one constructor per row of spec/opcode_table.json. An instruction is one host
transaction (30_encoding.md R80). A write carries its whole 32-bit DATA, of which its meaning uses the register's field
(R87); a reserved-offset row that stands for several offsets carries OFF; a CMD row carries DATA, whose low byte is the
OPCODE (R83). A read carries nothing: its DATA is 0 (R80). -/

namespace Sys2Proof

/-- The host transactions (30_encoding.md R82, R84). -/
inductive Instr where
  /-- `RD_ID`: read ID (44_register_access.md R200). -/
  | rdId
  /-- `WR_ID`: write ID (44_register_access.md R201). -/
  | wrId (data : Word)
  /-- `RD_CMD`: read CMD (44_register_access.md R202). -/
  | rdCmd
  /-- `CMD_SEND_CHANNEL`: write of CMD, OPCODE = 0x01 (42_frame_encoder.md R165). -/
  | cmdSendChannel (data : Word)
  /-- `CMD_COMMIT`: write of CMD, OPCODE = 0x02 (42_frame_encoder.md R166). -/
  | cmdCommit (data : Word)
  /-- `CMD_RESERVED_00`: write of CMD, reserved OPCODE 0x00 (42_frame_encoder.md R161). -/
  | cmdReserved00 (data : Word)
  /-- `CMD_RESERVED_03`: write of CMD, reserved OPCODE 0x03 (42_frame_encoder.md R161). -/
  | cmdReserved03 (data : Word)
  /-- `CMD_RESERVED_04_07`: write of CMD, reserved OPCODE 0x04..0x07 (42_frame_encoder.md R161). -/
  | cmdReserved0407 (data : Word)
  /-- `CMD_RESERVED_08_0F`: write of CMD, reserved OPCODE 0x08..0x0F (42_frame_encoder.md R161). -/
  | cmdReserved080F (data : Word)
  /-- `CMD_RESERVED_10_1F`: write of CMD, reserved OPCODE 0x10..0x1F (42_frame_encoder.md R161). -/
  | cmdReserved101F (data : Word)
  /-- `CMD_RESERVED_20_3F`: write of CMD, reserved OPCODE 0x20..0x3F (42_frame_encoder.md R161). -/
  | cmdReserved203F (data : Word)
  /-- `CMD_RESERVED_40_7F`: write of CMD, reserved OPCODE 0x40..0x7F (42_frame_encoder.md R161). -/
  | cmdReserved407F (data : Word)
  /-- `CMD_RESERVED_80_FF`: write of CMD, reserved OPCODE 0x80..0xFF (42_frame_encoder.md R161). -/
  | cmdReserved80FF (data : Word)
  /-- `RD_STATUS`: read STATUS (44_register_access.md R203). -/
  | rdStatus
  /-- `WR_STATUS`: write STATUS (44_register_access.md R204). -/
  | wrStatus (data : Word)
  /-- `RD_CHANNEL`: read CHANNEL (44_register_access.md R205). -/
  | rdChannel
  /-- `WR_CHANNEL`: write CHANNEL (44_register_access.md R206). -/
  | wrChannel (data : Word)
  /-- `RD_RECTYPE`: read RECTYPE (44_register_access.md R207). -/
  | rdRectype
  /-- `WR_RECTYPE`: write RECTYPE (44_register_access.md R208). -/
  | wrRectype (data : Word)
  /-- `RD_COLOR_ORDER`: read COLOR_ORDER (44_register_access.md R209). -/
  | rdColorOrder
  /-- `WR_COLOR_ORDER`: write COLOR_ORDER (44_register_access.md R210). -/
  | wrColorOrder (data : Word)
  /-- `RD_PIXEL_COUNT`: read PIXEL_COUNT (44_register_access.md R211). -/
  | rdPixelCount
  /-- `WR_PIXEL_COUNT`: write PIXEL_COUNT (44_register_access.md R212). -/
  | wrPixelCount (data : Word)
  /-- `RD_FREQUENCY`: read FREQUENCY (44_register_access.md R213). -/
  | rdFrequency
  /-- `WR_FREQUENCY`: write FREQUENCY (44_register_access.md R214). -/
  | wrFrequency (data : Word)
  /-- `RD_BRIGHTNESS`: read BRIGHTNESS (44_register_access.md R215). -/
  | rdBrightness
  /-- `WR_BRIGHTNESS`: write BRIGHTNESS (44_register_access.md R216). -/
  | wrBrightness (data : Word)
  /-- `RD_BUF_LEN`: read BUF_LEN (44_register_access.md R217). -/
  | rdBufLen
  /-- `WR_BUF_LEN`: write BUF_LEN (44_register_access.md R218). -/
  | wrBufLen (data : Word)
  /-- `RD_PB_ADDR`: read PB_ADDR (44_register_access.md R219). -/
  | rdPbAddr
  /-- `WR_PB_ADDR`: write PB_ADDR (44_register_access.md R220). -/
  | wrPbAddr (data : Word)
  /-- `RD_PB_DATA`: read PB_DATA (44_register_access.md R221). -/
  | rdPbData
  /-- `WR_PB_DATA`: write PB_DATA (44_register_access.md R222). -/
  | wrPbData (data : Word)
  /-- `RD_PB_DATA8`: read PB_DATA8 (44_register_access.md R223). -/
  | rdPbData8
  /-- `WR_PB_DATA8`: write PB_DATA8 (44_register_access.md R224). -/
  | wrPbData8 (data : Word)
  /-- `RD_CRC_INIT`: read CRC_INIT (40_crc32.md R131). -/
  | rdCrcInit
  /-- `WR_CRC_INIT`: write CRC_INIT (40_crc32.md R127). -/
  | wrCrcInit (data : Word)
  /-- `RD_CRC_DATA`: read CRC_DATA (40_crc32.md R132). -/
  | rdCrcData
  /-- `WR_CRC_DATA`: write CRC_DATA (40_crc32.md R128). -/
  | wrCrcData (data : Word)
  /-- `RD_CRC_RESULT`: read CRC_RESULT (40_crc32.md R129). -/
  | rdCrcResult
  /-- `WR_CRC_RESULT`: write CRC_RESULT (40_crc32.md R133). -/
  | wrCrcResult (data : Word)
  /-- `RD_CRC_STATE`: read CRC_STATE (40_crc32.md R130). -/
  | rdCrcState
  /-- `WR_CRC_STATE`: write CRC_STATE (40_crc32.md R134). -/
  | wrCrcState (data : Word)
  /-- `RD_LAST_CRC`: read LAST_CRC (44_register_access.md R225). -/
  | rdLastCrc
  /-- `WR_LAST_CRC`: write LAST_CRC (44_register_access.md R226). -/
  | wrLastCrc (data : Word)
  /-- `RD_TX_COUNT`: read TX_COUNT (44_register_access.md R227). -/
  | rdTxCount
  /-- `WR_TX_COUNT`: write TX_COUNT (44_register_access.md R228). -/
  | wrTxCount (data : Word)
  /-- `RD_RESERVED_4C`: read of a reserved offset (44_register_access.md R229). -/
  | rdReserved4C
  /-- `RD_RESERVED_50_5C`: read of a reserved offset (44_register_access.md R229). -/
  | rdReserved505C (off : Byte)
  /-- `RD_RESERVED_60_7C`: read of a reserved offset (44_register_access.md R229). -/
  | rdReserved607C (off : Byte)
  /-- `RD_RESERVED_80_FC`: read of a reserved offset (44_register_access.md R229). -/
  | rdReserved80FC (off : Byte)
  /-- `WR_RESERVED_4C`: write of a reserved offset (44_register_access.md R230). -/
  | wrReserved4C (data : Word)
  /-- `WR_RESERVED_50_5C`: write of a reserved offset (44_register_access.md R230). -/
  | wrReserved505C (off : Byte) (data : Word)
  /-- `WR_RESERVED_60_7C`: write of a reserved offset (44_register_access.md R230). -/
  | wrReserved607C (off : Byte) (data : Word)
  /-- `WR_RESERVED_80_FC`: write of a reserved offset (44_register_access.md R230). -/
  | wrReserved80FC (off : Byte) (data : Word)
deriving DecidableEq, Repr

/-- One access as the host presents it to the port: how many bits wide it is and the packed (W, OFF, DATA) it carries.
The port carries only 32-bit accesses (20_memory.md R66); an access of another width is held here so that it can be
refused by name (60_exceptions.md R246). -/
structure HostAccess where
  width : Nat
  txn   : TxnWord
deriving DecidableEq, Repr

end Sys2Proof
end

