-- ==== Sys2Proof/WellFormed.lean ====
section
/-! DEFINITION. Which terms of Instr stand for a host transaction: a CMD row's DATA carries an OPCODE of that row
(30_encoding.md R84; 42_frame_encoder.md R161), and a reserved row's OFF lies in the row's range and is a multiple of four
(30_encoding.md R81; 44_register_access.md R229, R230). The bounds are those of the mnemonics. -/

namespace Sys2Proof

/-- OPCODE, the low byte of a CMD write's DATA (30_encoding.md R83). -/
def opcodeOf (data : Word) : Byte := data.extractLsb' 0 8

/-- The OPCODE of `data` lies in `lo .. hi`. -/
def opcodeIn (lo hi : Nat) (data : Word) : Bool :=
  decide (lo ≤ (opcodeOf data).toNat) && decide ((opcodeOf data).toNat ≤ hi)

/-- `off` is a word offset in `lo .. hi`: OFF[1:0] = 00 (R81). -/
def offsetIn (lo hi : Nat) (off : Byte) : Bool :=
  decide (off.toNat % 4 = 0) && decide (lo ≤ off.toNat) && decide (off.toNat ≤ hi)

/-- The check a term of Instr must pass to be a host transaction; every other row has no operand it could fail on. -/
def Instr.wellFormed : Instr → Bool
  | .cmdSendChannel d => opcodeIn 0x01 0x01 d
  | .cmdCommit d => opcodeIn 0x02 0x02 d
  | .cmdReserved00 d => opcodeIn 0x00 0x00 d
  | .cmdReserved03 d => opcodeIn 0x03 0x03 d
  | .cmdReserved0407 d => opcodeIn 0x04 0x07 d
  | .cmdReserved080F d => opcodeIn 0x08 0x0F d
  | .cmdReserved101F d => opcodeIn 0x10 0x1F d
  | .cmdReserved203F d => opcodeIn 0x20 0x3F d
  | .cmdReserved407F d => opcodeIn 0x40 0x7F d
  | .cmdReserved80FF d => opcodeIn 0x80 0xFF d
  | .rdReserved505C off => offsetIn 0x50 0x5C off
  | .rdReserved607C off => offsetIn 0x60 0x7C off
  | .rdReserved80FC off => offsetIn 0x80 0xFC off
  | .wrReserved505C off _ => offsetIn 0x50 0x5C off
  | .wrReserved607C off _ => offsetIn 0x60 0x7C off
  | .wrReserved80FC off _ => offsetIn 0x80 0xFC off
  | .rdId | .wrId _ | .rdCmd | .rdStatus | .wrStatus _ | .rdChannel | .wrChannel _ | .rdRectype | .wrRectype _
  | .rdColorOrder | .wrColorOrder _ | .rdPixelCount | .wrPixelCount _ | .rdFrequency | .wrFrequency _
  | .rdBrightness | .wrBrightness _ | .rdBufLen | .wrBufLen _ | .rdPbAddr | .wrPbAddr _ | .rdPbData | .wrPbData _
  | .rdPbData8 | .wrPbData8 _ | .rdCrcInit | .wrCrcInit _ | .rdCrcData | .wrCrcData _ | .rdCrcResult
  | .wrCrcResult _ | .rdCrcState | .wrCrcState _ | .rdLastCrc | .wrLastCrc _ | .rdTxCount | .wrTxCount _
  | .rdReserved4C | .wrReserved4C _ => true

end Sys2Proof
end

