-- ==== Sys2Proof/Decode.lean ====
section
/-! DEFINITION. The decoder of host transactions (30_encoding.md R80 to R87), total and refusing by name; after it the
encoder, the opcode table as rows of match and mask, and decodeTableWord. -/

namespace Sys2Proof

/-- Why an access is no instruction of the block (20_memory.md R66; 60_exceptions.md R246). -/
inductive DecodeError where
  /-- The access is not 32 bits wide. -/
  | width (bits : Nat)
  /-- OFF[1:0] is not 00. -/
  | misaligned (off : Byte)
deriving DecidableEq, Repr

/-- W, bit 40 of a transaction: true for a write (R80). -/
def txnIsWrite (t : TxnWord) : Bool := t.getLsbD 40

/-- OFF, bits 39 to 32 of a transaction (R80). -/
def txnOff (t : TxnWord) : Byte := t.extractLsb' 32 8

/-- DATA, bits 31 to 0 of a transaction (R80). -/
def txnData (t : TxnWord) : Word := t.extractLsb' 0 32

/-- OPCODE, DATA[7:0] of a write of CMD (R83). -/
def txnOpcode (data : Word) : Byte := data.extractLsb' 0 8

/-- The command a write of CMD selects by its OPCODE, DATA[7:0]; DATA[31:8] play no part (R83, R84; 42_frame_encoder.md
R161: every OPCODE but 0x01 and 0x02 is reserved). -/
def decodeCommand (data : Word) : Instr :=
  let op := (txnOpcode data).toNat
  if op = 0x00 then .cmdReserved00 data
  else if op = 0x01 then .cmdSendChannel data
  else if op = 0x02 then .cmdCommit data
  else if op = 0x03 then .cmdReserved03 data
  else if op < 0x08 then .cmdReserved0407 data
  else if op < 0x10 then .cmdReserved080F data
  else if op < 0x20 then .cmdReserved101F data
  else if op < 0x40 then .cmdReserved203F data
  else if op < 0x80 then .cmdReserved407F data
  else .cmdReserved80FF data

/-- The read of a reserved offset, 0x4C to 0xFC (44_register_access.md R229). -/
def decodeReservedRead (off : Byte) : Instr :=
  if off.toNat < 0x50 then .rdReserved4C
  else if off.toNat < 0x60 then .rdReserved505C off
  else if off.toNat < 0x80 then .rdReserved607C off
  else .rdReserved80FC off

/-- The write of a reserved offset, 0x4C to 0xFC (44_register_access.md R230). -/
def decodeReservedWrite (off : Byte) (data : Word) : Instr :=
  if off.toNat < 0x50 then .wrReserved4C data
  else if off.toNat < 0x60 then .wrReserved505C off data
  else if off.toNat < 0x80 then .wrReserved607C off data
  else .wrReserved80FC off data

/-- The read instruction of the word slot OFF[7:2], in the order of 10_state.md R21 (30_encoding.md R82). -/
def decodeRead (off : Byte) : Instr :=
  match off.toNat / 4 with
  | 0 => .rdId
  | 1 => .rdCmd
  | 2 => .rdStatus
  | 3 => .rdChannel
  | 4 => .rdRectype
  | 5 => .rdColorOrder
  | 6 => .rdPixelCount
  | 7 => .rdFrequency
  | 8 => .rdBrightness
  | 9 => .rdBufLen
  | 10 => .rdPbAddr
  | 11 => .rdPbData
  | 12 => .rdPbData8
  | 13 => .rdCrcInit
  | 14 => .rdCrcData
  | 15 => .rdCrcResult
  | 16 => .rdCrcState
  | 17 => .rdLastCrc
  | 18 => .rdTxCount
  | _ => decodeReservedRead off

/-- The write instruction of the word slot OFF[7:2], in the order of 10_state.md R21 (30_encoding.md R82). -/
def decodeWrite (off : Byte) (data : Word) : Instr :=
  match off.toNat / 4 with
  | 0 => .wrId data
  | 1 => decodeCommand data
  | 2 => .wrStatus data
  | 3 => .wrChannel data
  | 4 => .wrRectype data
  | 5 => .wrColorOrder data
  | 6 => .wrPixelCount data
  | 7 => .wrFrequency data
  | 8 => .wrBrightness data
  | 9 => .wrBufLen data
  | 10 => .wrPbAddr data
  | 11 => .wrPbData data
  | 12 => .wrPbData8 data
  | 13 => .wrCrcInit data
  | 14 => .wrCrcData data
  | 15 => .wrCrcResult data
  | 16 => .wrCrcState data
  | 17 => .wrLastCrc data
  | 18 => .wrTxCount data
  | _ => decodeReservedWrite off data

/-- The instruction of a packed transaction (R82): refused when OFF[1:0] is not 00 (R81), and otherwise always one. A read's
DATA field is not looked at (notes/assumptions/9.md). -/
def decode (t : TxnWord) : Except DecodeError Instr :=
  if (txnOff t).toNat % 4 = 0 then
    if txnIsWrite t then .ok (decodeWrite (txnOff t) (txnData t)) else .ok (decodeRead (txnOff t))
  else .error (.misaligned (txnOff t))

/-- The instruction of a host access: the port carries only 32-bit accesses (20_memory.md R66). -/
def decodeAccess (a : HostAccess) : Except DecodeError Instr :=
  if a.width = 32 then decode a.txn else .error (.width a.width)

/-- A packed transaction from its three fields (R80). -/
def txnWord (w : Bool) (off : Byte) (data : Word) : TxnWord := BitVec.ofBool w ++ off ++ data

/-- The transaction of an instruction (R80, R84; 10_state.md R21 for the offsets). -/
def encode : Instr → TxnWord
  | .rdId => txnWord false 0x00#8 0#32
  | .rdCmd => txnWord false 0x04#8 0#32
  | .rdStatus => txnWord false 0x08#8 0#32
  | .rdChannel => txnWord false 0x0C#8 0#32
  | .rdRectype => txnWord false 0x10#8 0#32
  | .rdColorOrder => txnWord false 0x14#8 0#32
  | .rdPixelCount => txnWord false 0x18#8 0#32
  | .rdFrequency => txnWord false 0x1C#8 0#32
  | .rdBrightness => txnWord false 0x20#8 0#32
  | .rdBufLen => txnWord false 0x24#8 0#32
  | .rdPbAddr => txnWord false 0x28#8 0#32
  | .rdPbData => txnWord false 0x2C#8 0#32
  | .rdPbData8 => txnWord false 0x30#8 0#32
  | .rdCrcInit => txnWord false 0x34#8 0#32
  | .rdCrcData => txnWord false 0x38#8 0#32
  | .rdCrcResult => txnWord false 0x3C#8 0#32
  | .rdCrcState => txnWord false 0x40#8 0#32
  | .rdLastCrc => txnWord false 0x44#8 0#32
  | .rdTxCount => txnWord false 0x48#8 0#32
  | .wrId d => txnWord true 0x00#8 d
  | .wrStatus d => txnWord true 0x08#8 d
  | .wrChannel d => txnWord true 0x0C#8 d
  | .wrRectype d => txnWord true 0x10#8 d
  | .wrColorOrder d => txnWord true 0x14#8 d
  | .wrPixelCount d => txnWord true 0x18#8 d
  | .wrFrequency d => txnWord true 0x1C#8 d
  | .wrBrightness d => txnWord true 0x20#8 d
  | .wrBufLen d => txnWord true 0x24#8 d
  | .wrPbAddr d => txnWord true 0x28#8 d
  | .wrPbData d => txnWord true 0x2C#8 d
  | .wrPbData8 d => txnWord true 0x30#8 d
  | .wrCrcInit d => txnWord true 0x34#8 d
  | .wrCrcData d => txnWord true 0x38#8 d
  | .wrCrcResult d => txnWord true 0x3C#8 d
  | .wrCrcState d => txnWord true 0x40#8 d
  | .wrLastCrc d => txnWord true 0x44#8 d
  | .wrTxCount d => txnWord true 0x48#8 d
  | .cmdSendChannel d => txnWord true 0x04#8 d
  | .cmdCommit d => txnWord true 0x04#8 d
  | .cmdReserved00 d => txnWord true 0x04#8 d
  | .cmdReserved03 d => txnWord true 0x04#8 d
  | .cmdReserved0407 d => txnWord true 0x04#8 d
  | .cmdReserved080F d => txnWord true 0x04#8 d
  | .cmdReserved101F d => txnWord true 0x04#8 d
  | .cmdReserved203F d => txnWord true 0x04#8 d
  | .cmdReserved407F d => txnWord true 0x04#8 d
  | .cmdReserved80FF d => txnWord true 0x04#8 d
  | .rdReserved4C => txnWord false 0x4C#8 0#32
  | .rdReserved505C off => txnWord false off 0#32
  | .rdReserved607C off => txnWord false off 0#32
  | .rdReserved80FC off => txnWord false off 0#32
  | .wrReserved4C d => txnWord true 0x4C#8 d
  | .wrReserved505C off d => txnWord true off d
  | .wrReserved607C off d => txnWord true off d
  | .wrReserved80FC off d => txnWord true off d

/-- The instruction's mnemonic in the opcode table. -/
def Instr.mnemonic : Instr → String
  | .rdId => "RD_ID"
  | .wrId _ => "WR_ID"
  | .rdCmd => "RD_CMD"
  | .cmdSendChannel _ => "CMD_SEND_CHANNEL"
  | .cmdCommit _ => "CMD_COMMIT"
  | .cmdReserved00 _ => "CMD_RESERVED_00"
  | .cmdReserved03 _ => "CMD_RESERVED_03"
  | .cmdReserved0407 _ => "CMD_RESERVED_04_07"
  | .cmdReserved080F _ => "CMD_RESERVED_08_0F"
  | .cmdReserved101F _ => "CMD_RESERVED_10_1F"
  | .cmdReserved203F _ => "CMD_RESERVED_20_3F"
  | .cmdReserved407F _ => "CMD_RESERVED_40_7F"
  | .cmdReserved80FF _ => "CMD_RESERVED_80_FF"
  | .rdStatus => "RD_STATUS"
  | .wrStatus _ => "WR_STATUS"
  | .rdChannel => "RD_CHANNEL"
  | .wrChannel _ => "WR_CHANNEL"
  | .rdRectype => "RD_RECTYPE"
  | .wrRectype _ => "WR_RECTYPE"
  | .rdColorOrder => "RD_COLOR_ORDER"
  | .wrColorOrder _ => "WR_COLOR_ORDER"
  | .rdPixelCount => "RD_PIXEL_COUNT"
  | .wrPixelCount _ => "WR_PIXEL_COUNT"
  | .rdFrequency => "RD_FREQUENCY"
  | .wrFrequency _ => "WR_FREQUENCY"
  | .rdBrightness => "RD_BRIGHTNESS"
  | .wrBrightness _ => "WR_BRIGHTNESS"
  | .rdBufLen => "RD_BUF_LEN"
  | .wrBufLen _ => "WR_BUF_LEN"
  | .rdPbAddr => "RD_PB_ADDR"
  | .wrPbAddr _ => "WR_PB_ADDR"
  | .rdPbData => "RD_PB_DATA"
  | .wrPbData _ => "WR_PB_DATA"
  | .rdPbData8 => "RD_PB_DATA8"
  | .wrPbData8 _ => "WR_PB_DATA8"
  | .rdCrcInit => "RD_CRC_INIT"
  | .wrCrcInit _ => "WR_CRC_INIT"
  | .rdCrcData => "RD_CRC_DATA"
  | .wrCrcData _ => "WR_CRC_DATA"
  | .rdCrcResult => "RD_CRC_RESULT"
  | .wrCrcResult _ => "WR_CRC_RESULT"
  | .rdCrcState => "RD_CRC_STATE"
  | .wrCrcState _ => "WR_CRC_STATE"
  | .rdLastCrc => "RD_LAST_CRC"
  | .wrLastCrc _ => "WR_LAST_CRC"
  | .rdTxCount => "RD_TX_COUNT"
  | .wrTxCount _ => "WR_TX_COUNT"
  | .rdReserved4C => "RD_RESERVED_4C"
  | .rdReserved505C _ => "RD_RESERVED_50_5C"
  | .rdReserved607C _ => "RD_RESERVED_60_7C"
  | .rdReserved80FC _ => "RD_RESERVED_80_FC"
  | .wrReserved4C _ => "WR_RESERVED_4C"
  | .wrReserved505C _ _ => "WR_RESERVED_50_5C"
  | .wrReserved607C _ _ => "WR_RESERVED_60_7C"
  | .wrReserved80FC _ _ => "WR_RESERVED_80_FC"

/-- One row of the opcode table: it stands for the words `t` with `t &&& mask = pattern` (R82). -/
structure OpcodeRow where
  mnemonic : String
  pattern  : TxnWord
  mask     : TxnWord
deriving DecidableEq, Repr

/-- The row stands for the word. -/
def OpcodeRow.covers (r : OpcodeRow) (t : TxnWord) : Bool := t &&& r.mask == r.pattern

/-- The rows of ID and CMD (44_register_access.md R200 to R202; 42_frame_encoder.md R161, R165, R166). -/
def opcodeRowsCommand : List OpcodeRow :=
  [⟨"RD_ID", 0x00000000000#41, 0x1FF00000000#41⟩,
   ⟨"WR_ID", 0x10000000000#41, 0x1FF00000000#41⟩,
   ⟨"RD_CMD", 0x00400000000#41, 0x1FF00000000#41⟩,
   ⟨"CMD_SEND_CHANNEL", 0x10400000001#41, 0x1FF000000FF#41⟩,
   ⟨"CMD_COMMIT", 0x10400000002#41, 0x1FF000000FF#41⟩,
   ⟨"CMD_RESERVED_00", 0x10400000000#41, 0x1FF000000FF#41⟩,
   ⟨"CMD_RESERVED_03", 0x10400000003#41, 0x1FF000000FF#41⟩,
   ⟨"CMD_RESERVED_04_07", 0x10400000004#41, 0x1FF000000FC#41⟩,
   ⟨"CMD_RESERVED_08_0F", 0x10400000008#41, 0x1FF000000F8#41⟩,
   ⟨"CMD_RESERVED_10_1F", 0x10400000010#41, 0x1FF000000F0#41⟩,
   ⟨"CMD_RESERVED_20_3F", 0x10400000020#41, 0x1FF000000E0#41⟩,
   ⟨"CMD_RESERVED_40_7F", 0x10400000040#41, 0x1FF000000C0#41⟩,
   ⟨"CMD_RESERVED_80_FF", 0x10400000080#41, 0x1FF00000080#41⟩]

/-- The rows of STATUS and the argument registers (44_register_access.md R203 to R216). -/
def opcodeRowsArguments : List OpcodeRow :=
  [⟨"RD_STATUS", 0x00800000000#41, 0x1FF00000000#41⟩,
   ⟨"WR_STATUS", 0x10800000000#41, 0x1FF00000000#41⟩,
   ⟨"RD_CHANNEL", 0x00C00000000#41, 0x1FF00000000#41⟩,
   ⟨"WR_CHANNEL", 0x10C00000000#41, 0x1FF00000000#41⟩,
   ⟨"RD_RECTYPE", 0x01000000000#41, 0x1FF00000000#41⟩,
   ⟨"WR_RECTYPE", 0x11000000000#41, 0x1FF00000000#41⟩,
   ⟨"RD_COLOR_ORDER", 0x01400000000#41, 0x1FF00000000#41⟩,
   ⟨"WR_COLOR_ORDER", 0x11400000000#41, 0x1FF00000000#41⟩,
   ⟨"RD_PIXEL_COUNT", 0x01800000000#41, 0x1FF00000000#41⟩,
   ⟨"WR_PIXEL_COUNT", 0x11800000000#41, 0x1FF00000000#41⟩,
   ⟨"RD_FREQUENCY", 0x01C00000000#41, 0x1FF00000000#41⟩,
   ⟨"WR_FREQUENCY", 0x11C00000000#41, 0x1FF00000000#41⟩,
   ⟨"RD_BRIGHTNESS", 0x02000000000#41, 0x1FF00000000#41⟩,
   ⟨"WR_BRIGHTNESS", 0x12000000000#41, 0x1FF00000000#41⟩]

/-- The rows of BUF_LEN, PB_ADDR, PB_DATA and PB_DATA8 (44_register_access.md R217 to R224). -/
def opcodeRowsBuffer : List OpcodeRow :=
  [⟨"RD_BUF_LEN", 0x02400000000#41, 0x1FF00000000#41⟩,
   ⟨"WR_BUF_LEN", 0x12400000000#41, 0x1FF00000000#41⟩,
   ⟨"RD_PB_ADDR", 0x02800000000#41, 0x1FF00000000#41⟩,
   ⟨"WR_PB_ADDR", 0x12800000000#41, 0x1FF00000000#41⟩,
   ⟨"RD_PB_DATA", 0x02C00000000#41, 0x1FF00000000#41⟩,
   ⟨"WR_PB_DATA", 0x12C00000000#41, 0x1FF00000000#41⟩,
   ⟨"RD_PB_DATA8", 0x03000000000#41, 0x1FF00000000#41⟩,
   ⟨"WR_PB_DATA8", 0x13000000000#41, 0x1FF00000000#41⟩]

/-- The rows of the CRC registers, LAST_CRC and TX_COUNT (40_crc32.md R127 to R134; 44_register_access.md R225 to R228). -/
def opcodeRowsCrc : List OpcodeRow :=
  [⟨"RD_CRC_INIT", 0x03400000000#41, 0x1FF00000000#41⟩,
   ⟨"WR_CRC_INIT", 0x13400000000#41, 0x1FF00000000#41⟩,
   ⟨"RD_CRC_DATA", 0x03800000000#41, 0x1FF00000000#41⟩,
   ⟨"WR_CRC_DATA", 0x13800000000#41, 0x1FF00000000#41⟩,
   ⟨"RD_CRC_RESULT", 0x03C00000000#41, 0x1FF00000000#41⟩,
   ⟨"WR_CRC_RESULT", 0x13C00000000#41, 0x1FF00000000#41⟩,
   ⟨"RD_CRC_STATE", 0x04000000000#41, 0x1FF00000000#41⟩,
   ⟨"WR_CRC_STATE", 0x14000000000#41, 0x1FF00000000#41⟩,
   ⟨"RD_LAST_CRC", 0x04400000000#41, 0x1FF00000000#41⟩,
   ⟨"WR_LAST_CRC", 0x14400000000#41, 0x1FF00000000#41⟩,
   ⟨"RD_TX_COUNT", 0x04800000000#41, 0x1FF00000000#41⟩,
   ⟨"WR_TX_COUNT", 0x14800000000#41, 0x1FF00000000#41⟩]

/-- The rows of the reserved offsets (44_register_access.md R229, R230). -/
def opcodeRowsReserved : List OpcodeRow :=
  [⟨"RD_RESERVED_4C", 0x04C00000000#41, 0x1FF00000000#41⟩,
   ⟨"RD_RESERVED_50_5C", 0x05000000000#41, 0x1F300000000#41⟩,
   ⟨"RD_RESERVED_60_7C", 0x06000000000#41, 0x1E300000000#41⟩,
   ⟨"RD_RESERVED_80_FC", 0x08000000000#41, 0x18300000000#41⟩,
   ⟨"WR_RESERVED_4C", 0x14C00000000#41, 0x1FF00000000#41⟩,
   ⟨"WR_RESERVED_50_5C", 0x15000000000#41, 0x1F300000000#41⟩,
   ⟨"WR_RESERVED_60_7C", 0x16000000000#41, 0x1E300000000#41⟩,
   ⟨"WR_RESERVED_80_FC", 0x18000000000#41, 0x18300000000#41⟩]

/-- The opcode table, 55 rows. -/
def opcodeTable : List OpcodeRow :=
  opcodeRowsCommand ++ opcodeRowsArguments ++ opcodeRowsBuffer ++ opcodeRowsCrc ++ opcodeRowsReserved

/-- The access that carries the low `nbits` bits of `w` as the table numbers them. The block's one format is the 41-bit
transaction (R80), so a number of more than 41 bits is presented as an access of its own width, which the port does not
carry (notes/assumptions/10.md). -/
def tableAccess (nbits w : Nat) : HostAccess :=
  if w % 2 ^ nbits < 2 ^ 41 then ⟨32, BitVec.ofNat 41 (w % 2 ^ nbits)⟩ else ⟨nbits, BitVec.ofNat 41 (w % 2 ^ nbits)⟩

/-- The instruction the decoder reads from the bits `w` of a row that the table gives `nbits` bits. -/
def decodeTableWord (nbits w : Nat) : Option Instr :=
  match decodeAccess (tableAccess nbits w) with
  | .ok i => some i
  | .error _ => none

end Sys2Proof
end

