-- ==== Sys2Proof/Machine/Bits.lean ====
section
/-! DEFINITION. Fields, zero extension and byte order (00_scope.md R12, R13; 20_memory.md R65; 30_encoding.md R110). -/

namespace Sys2Proof.Machine

/-- `zext_32(v)` (00_scope.md R12). -/
def zext32 {w : Nat} (v : BitVec w) : Word := v.setWidth 32

/-- Byte `k` of a word, byte 0 the least significant. -/
def byteOf (v : Word) (k : Nat) : Byte := v.extractLsb' (8 * k) 8

/-- `le16(v)` (00_scope.md R13). -/
def le16 (v : Half) : List Byte := [v.extractLsb' 0 8, v.extractLsb' 8 8]

/-- `le32(v)` (00_scope.md R13). -/
def le32 (v : Word) : List Byte := [byteOf v 0, byteOf v 1, byteOf v 2, byteOf v 3]

/-- The word whose bytes, least significant first, are the four given (20_memory.md R65). -/
def joinLe (b0 b1 b2 b3 : Byte) : Word := b3 ++ b2 ++ b1 ++ b0

end Sys2Proof.Machine
end

