-- ==== Sys2Proof/Machine/Crc.lean ====
section
/-! DEFINITION. The CRC-32 datapath (40_crc32.md R120 to R126), used by the host's engine and by the frame encoder. -/

namespace Sys2Proof.Machine

/-- POLY, the reflected generator polynomial (40_crc32.md R120). -/
def crcPoly : Word := 0xEDB88320#32

/-- The register value before the first byte: all ones (R125). -/
def crcInit : Word := 0xFFFFFFFF#32

/-- One reflected shift step: `(r >> 1) ^ (POLY if r[0] = 1 else 0)` (R121). -/
def crcShift (r : Word) : Word := (r >>> 1) ^^^ (if r.getLsbD 0 then crcPoly else 0#32)

/-- `k` reflected shift steps. -/
def crcShifts : Nat → Word → Word
  | 0, r => r
  | k + 1, r => crcShifts k (crcShift r)

/-- The nibble table `T[i]`: four reflected shift steps applied to `i` (R121). -/
def crcTable (i : BitVec 4) : Word := crcShifts 4 (i.setWidth 32)

/-- `NSTEP(c, n) = (c >> 4) ^ T[(c ^ n) & 0xF]` (R122). -/
def nstep (c : Word) (n : BitVec 4) : Word := (c >>> 4) ^^^ crcTable ((c ^^^ n.setWidth 32).setWidth 4)

/-- `FOLD(c, b)`: the low nibble first, then the high nibble (R123). -/
def fold (c : Word) (b : Byte) : Word := nstep (nstep c (b.extractLsb' 0 4)) (b.extractLsb' 4 4)

/-- The raw CRC after folding the bytes of `s`, in order, into the register value `c` (R125). -/
def rawCrc (c : Word) (s : List Byte) : Word := s.foldl fold c

/-- `crc32(s)`: from all ones, complemented at the end (R125). -/
def crc32 (s : List Byte) : Word := ~~~ rawCrc crcInit s

/-- Form (a) of R124: the byte is XORed in whole first. -/
def foldXorFirst (c : Word) (b : Byte) : Word :=
  let c1 := c ^^^ zext32 b
  let c2 := (c1 >>> 4) ^^^ crcTable (c1.setWidth 4)
  (c2 >>> 4) ^^^ crcTable (c2.setWidth 4)

/-- The 256-entry table `T256[i]` of form (b): eight reflected shift steps (R124). -/
def crcTable256 (i : Byte) : Word := crcShifts 8 (zext32 i)

/-- Form (b) of R124: the classic byte-table step. -/
def foldByteTable (c : Word) (b : Byte) : Word := (c >>> 8) ^^^ crcTable256 ((c ^^^ zext32 b).setWidth 8)

/-- Form (c) of R124: eight bitwise steps. -/
def foldBitwise (c : Word) (b : Byte) : Word := crcShifts 8 (c ^^^ zext32 b)

end Sys2Proof.Machine
end

