-- ==== Sys2Proof/Config.lean ====
section
/-! DEFINITION. The two implementation parameters of 00_scope.md rule R10: PIXBUF_AW, a plain value that State carries and
no step changes, and PIXBUF_INIT, a free value. -/

namespace Sys2Proof

/-- The implementation parameters a machine is built with (R10).
`pixbufAw` is PIXBUF_AW, the address width of the pixel buffer. -/
structure Config where
  pixbufAw : Nat
deriving DecidableEq, Repr

/-- The legal values of PIXBUF_AW: 8 to 24 (R10). -/
abbrev Config.Legal (c : Config) : Prop := 8 ≤ c.pixbufAw ∧ c.pixbufAw ≤ 24

/-- The value this spec takes by default: PIXBUF_AW = 18 (R10). -/
def Config.default : Config := { pixbufAw := 18 }

/-- PIXBUF_INIT (R10, R272; 92_eei_decisions.md D7, OPEN): the byte that a pixel-buffer address not written since reset
holds. A FREE VALUE: it has no body, so nothing can be proved of it. Its first argument is the number of RST events since
power-up, so that the contents after one reset say nothing of those after another; its second is the address.
(notes/assumptions/4.md) -/
opaque Config.pixbufInit (resets addr : Nat) : Byte

end Sys2Proof
end

