-- ==== Sys2Proof/Machine/State.lean ====
section
/-! DEFINITION. The architectural state of UPXL-ENC (10_state.md), the reasons a step can stop, and the state after reset
(70_reset_and_hazards.md R270). -/

namespace Sys2Proof.Machine

/-- Why the machine would stop with a fault. There is NO reason: the block has no traps, every error it has is a STATUS flag
and the machine goes on (60_exceptions.md, R249, R250). Safe: no step answers with a fault. (notes/assumptions/14.md) -/
inductive Fault where
deriving DecidableEq, Repr

/-- Why a step gives no meaning to what the environment asks. -/
inductive Refusal where
  /-- An instruction that has no meaning yet, by its mnemonic. No arm of `exec` raises it. Safe. -/
  | notModelled (mnemonic : String)
  /-- Raised by the host port for an access that is not 32 bits wide: the port has no such transaction and a model must not
  give it a meaning (20_memory.md R66; 60_exceptions.md R246). Safe. -/
  | accessWidth (bits : Nat)
  /-- Raised by the host port for an access with OFF[1:0] other than 00 (20_memory.md R66; 60_exceptions.md R246). Safe. -/
  | misaligned (off : Byte)
deriving DecidableEq, Repr

/-- SEQ_STATE, the frame encoder's two states (10_state.md R41). -/
inductive SeqState where
  | idle
  | frame
deriving DecidableEq, Repr

/-- The error conditions of 60_exceptions.md R240. -/
inductive BlockError where
  | txFail
  | lenErr
  | busyErr
  | cmdErr
deriving DecidableEq, Repr

/-- STATUS bits 1 to 5 (10_state.md R25 to R29). BUSY, bit 0, is not stored: it is SEQ_STATE = FRAME (R24). -/
structure StatusFlags where
  done    : Bool
  txFail  : Bool
  lenErr  : Bool
  busyErr : Bool
  cmdErr  : Bool
deriving DecidableEq, Repr

/-- FC, the frame context a command latches at acceptance (10_state.md R42). -/
structure FrameContext where
  ch   : Byte
  rt   : Byte
  co   : Byte
  n    : Half
  freq : Word
  br   : Byte
deriving DecidableEq, Repr

/-- One thing the environment does to the block, one atomic step each (00_scope.md R15; 20_memory.md R70). -/
inductive Input where
  /-- The host presents an access on its port (10_state.md R46). -/
  | host (a : HostAccess)
  /-- The transport drives TX_READY and TX_ERR (10_state.md R45). -/
  | transport (txReady txErr : Bool)
  /-- RST (10_state.md R47). -/
  | reset
deriving DecidableEq, Repr

/-- Bytes by address: the pixel-buffer bytes the host has written since reset (notes/assumptions/5.md). -/
abbrev Memory := List Host.Cell

/-- The canonical form: addresses strictly rising. An address not listed holds no written byte, so no entry can equal what
an unlisted address reads as at this level. -/
abbrev Memory.wf (m : Memory) : Prop := m.Pairwise (fun x y => x.1 < y.1)

/-- The state of the block. The host-visible registers first, in the order of 10_state.md R21, then the hidden state
(R41 to R43), the pixel buffer (R48) and the wire (20_memory.md R63). The last four fields are the model's own. -/
structure State where
  /-- STATUS bits 1 to 5 (R25 to R30). -/
  status : StatusFlags
  /-- CHANNEL (R32). -/
  channel : Byte
  /-- RECTYPE (R33). -/
  rectype : Byte
  /-- COLOR_ORDER (R34). -/
  colorOrder : Byte
  /-- PIXEL_COUNT (R35). -/
  pixelCount : Half
  /-- FREQUENCY (R36). -/
  frequency : Word
  /-- BRIGHTNESS (R37). -/
  brightness : Byte
  /-- BUF_LEN, at most PIXBUF_BYTES (R31). -/
  bufLen : Word
  /-- PB_ADDR, below PIXBUF_BYTES (R38). -/
  pbAddr : Word
  /-- CRC_STATE, the host's checksum engine (R40). -/
  crcState : Word
  /-- LAST_CRC (R44). -/
  lastCrc : Word
  /-- TX_COUNT (R44). -/
  txCount : Word
  /-- SEQ_STATE (R41). -/
  seqState : SeqState
  /-- SEQ_POS, an unbounded natural number as R41 permits. -/
  seqPos : Nat
  /-- FC (R42). -/
  fc : FrameContext
  /-- FRAME_CRC (R43). -/
  frameCrc : Word
  /-- PIXBUF (R48): the bytes written since reset; every other byte is PIXBUF_INIT (70_reset_and_hazards.md R272). -/
  pixbuf : Memory
  /-- WIRE: the bytes the transport has accepted, oldest first (42_frame_encoder.md R178). -/
  wire : List Byte
  /-- The model's own: the RDATA values host reads have returned, oldest first (notes/assumptions/3.md). -/
  rdataLog : List Word
  /-- The model's own: how many RST inputs there have been; it selects the free PIXBUF_INIT (notes/assumptions/4.md). -/
  resets : Nat
  /-- The model's own: what the environment does next, oldest first (notes/assumptions/1.md). -/
  inputs : List Input
  /-- The model's own: the implementation parameter PIXBUF_AW, which no step changes (notes/assumptions/6.md). -/
  config : Config
deriving DecidableEq, Repr

/-- STATUS bits 1 to 5 after reset: 0 (10_state.md R21). -/
def StatusFlags.zero : StatusFlags :=
  { done := false, txFail := false, lenErr := false, busyErr := false, cmdErr := false }

/-- FC after reset: all fields 0 (10_state.md R42). -/
def FrameContext.zero : FrameContext := { ch := 0, rt := 0, co := 0, n := 0, freq := 0, br := 0 }

/-- The machine right after power-up reset (70_reset_and_hazards.md R270; 10_state.md R21, R52): nothing of PIXBUF is written,
so all of it is PIXBUF_INIT (R272); nothing is on the wire (42_frame_encoder.md R178); the environment has not acted. -/
def State.reset : State where
  status := StatusFlags.zero
  channel := 0x00#8
  rectype := 0x00#8
  colorOrder := 0x00#8
  pixelCount := 0x0000#16
  frequency := 0x00000000#32
  brightness := 0x00#8
  bufLen := 0x00000000#32
  pbAddr := 0x00000000#32
  crcState := 0xFFFFFFFF#32
  lastCrc := 0x00000000#32
  txCount := 0x00000000#32
  seqState := .idle
  seqPos := 0
  fc := FrameContext.zero
  frameCrc := 0xFFFFFFFF#32
  pixbuf := []
  wire := []
  rdataLog := []
  resets := 0
  inputs := []
  config := Config.default

end Sys2Proof.Machine
end

