-- ==== Sys2Proof/Machine/Flags.lean ====
section
/-! DEFINITION. The STATUS register: its word, the flag each error sets, and how flags are cleared (10_state.md R24 to R30;
60_exceptions.md R240). -/

namespace Sys2Proof.Machine

/-- BUSY: SEQ_STATE = FRAME (10_state.md R24). -/
def busy (s : State) : Bool := s.seqState == .frame

/-- The code of an error is its STATUS bit number (60_exceptions.md R240). -/
def BlockError.code : BlockError → Nat
  | .txFail => 2
  | .lenErr => 3
  | .busyErr => 4
  | .cmdErr => 5

/-- The flags with an error's bit set to 1 (60_exceptions.md R249). -/
def StatusFlags.setError (e : BlockError) (f : StatusFlags) : StatusFlags :=
  match e with
  | .txFail => { f with txFail := true }
  | .lenErr => { f with lenErr := true }
  | .busyErr => { f with busyErr := true }
  | .cmdErr => { f with cmdErr := true }

/-- The flags with DONE set to 1 (10_state.md R25). -/
def StatusFlags.setDone (f : StatusFlags) : StatusFlags := { f with done := true }

/-- What acceptance clears: DONE, TX_FAIL and LEN_ERR (42_frame_encoder.md R163). -/
def StatusFlags.clearResults (f : StatusFlags) : StatusFlags := { f with done := false, txFail := false, lenErr := false }

/-- W1C: each of bits 1 to 5 is cleared where DATA has a 1 and kept elsewhere; DATA[0] and DATA[31:6] are ignored
(10_state.md R30; 44_register_access.md R204). -/
def StatusFlags.w1c (data : Word) (f : StatusFlags) : StatusFlags where
  done    := f.done && !data.getLsbD 1
  txFail  := f.txFail && !data.getLsbD 2
  lenErr  := f.lenErr && !data.getLsbD 3
  busyErr := f.busyErr && !data.getLsbD 4
  cmdErr  := f.cmdErr && !data.getLsbD 5

/-- The word STATUS reads as, from CMD_ERR in bit 5 down to BUSY in bit 0 (44_register_access.md R203). -/
def statusBits (f : StatusFlags) (isBusy : Bool) : Word :=
  zext32 (BitVec.ofBool f.cmdErr ++ BitVec.ofBool f.busyErr ++ BitVec.ofBool f.lenErr ++ BitVec.ofBool f.txFail ++
    BitVec.ofBool f.done ++ BitVec.ofBool isBusy)

/-- STATUS as the host reads it now. -/
def statusWord (s : State) : Word := statusBits s.status (busy s)

end Sys2Proof.Machine
end

