-- ==== Sys2Proof/Machine/Ops.lean ====
section
/-! DEFINITION. The named operations over the pixel buffer and the registers: MemRead and MemWrite (00_scope.md R14), a
register's new value, raising an error and clearing it (60_exceptions.md R249, R250), the frame's bookkeeping
(42_frame_encoder.md R163 to R173) and RST (70_reset_and_hazards.md R270). -/

namespace Sys2Proof.Machine

/-! ### The pixel buffer -/

/-- PIXBUF_BYTES = 2^PIXBUF_AW (00_scope.md R10). -/
def State.pixbufBytes (s : State) : Nat := 2 ^ s.config.pixbufAw

/-- The byte written at `a` since reset, if one was. -/
def memLookup : Memory → Nat → Option Byte
  | [], _ => none
  | (k, v) :: m, a => if k = a then some v else memLookup m a

/-- The list with byte `b` at address `a`, kept in rising order of address. -/
def memStore : Memory → Nat → Byte → Memory
  | [], a, b => [(a, b)]
  | (k, v) :: m, a, b =>
    if a < k then (a, b) :: (k, v) :: m else if a = k then (a, b) :: m else (k, v) :: memStore m a b

/-- The bytes `bs` stored from address `a` upward, each address taken modulo `bytes` (00_scope.md R14, MemWrite). -/
def memStoreBytes (bytes : Nat) : Memory → Nat → List Byte → Memory
  | m, _, [] => m
  | m, a, b :: bs => memStoreBytes bytes (memStore m (a % bytes) b) (a + 1) bs

/-- `PB[a]`, the address taken modulo PIXBUF_BYTES (00_scope.md R14). A byte the host has not written since reset is the free
value PIXBUF_INIT (70_reset_and_hazards.md R272). -/
def State.pb (s : State) (a : Nat) : Byte :=
  (memLookup s.pixbuf (a % s.pixbufBytes)).getD (Config.pixbufInit s.resets (a % s.pixbufBytes))

/-- `MemRead(a, 4)`: little-endian (00_scope.md R14; 20_memory.md R65). -/
def State.memRead4 (s : State) (a : Nat) : Word := joinLe (s.pb a) (s.pb (a + 1)) (s.pb (a + 2)) (s.pb (a + 3))

/-- `MemWrite(PB_ADDR, |bs|, bs)` and then PB_ADDR advanced by the number of bytes, modulo PIXBUF_BYTES
(44_register_access.md R222, R224). -/
def State.storePixels (bs : List Byte) (s : State) : State :=
  { s with
    pixbuf := memStoreBytes s.pixbufBytes s.pixbuf s.pbAddr.toNat bs
    pbAddr := BitVec.ofNat 32 ((s.pbAddr.toNat + bs.length) % s.pixbufBytes) }

/-! ### The host port -/

/-- A read returns RDATA and changes no state of the block (30_encoding.md R80; 20_memory.md R69): the value is added to the
record of what the port returned. -/
def State.respond (v : Word) (s : State) : State := { s with rdataLog := s.rdataLog ++ [v] }

/-- The rest of the environment's inputs. -/
def State.setInputs (l : List Input) (s : State) : State := { s with inputs := l }

/-! ### Registers the host writes (10_state.md R31 to R40) -/

def State.setChannel (v : Byte) (s : State) : State := { s with channel := v }
def State.setRectype (v : Byte) (s : State) : State := { s with rectype := v }
def State.setColorOrder (v : Byte) (s : State) : State := { s with colorOrder := v }
def State.setPixelCount (v : Half) (s : State) : State := { s with pixelCount := v }
def State.setFrequency (v : Word) (s : State) : State := { s with frequency := v }
def State.setBrightness (v : Byte) (s : State) : State := { s with brightness := v }
def State.setBufLen (v : Word) (s : State) : State := { s with bufLen := v }
def State.setPbAddr (v : Word) (s : State) : State := { s with pbAddr := v }
def State.setCrcState (v : Word) (s : State) : State := { s with crcState := v }

/-! ### Errors: the block's only exceptions -/

/-- `raise <Error>`: the error's STATUS bit is set; nothing is saved, no mode changes and control does not move
(60_exceptions.md R249; 00_scope.md R14). -/
def State.raise (e : BlockError) (s : State) : State := { s with status := s.status.setError e }

/-- There is no return from an error: the host clears flags with a W1C write (60_exceptions.md R250; 44_register_access.md
R204). -/
def State.w1c (data : Word) (s : State) : State := { s with status := s.status.w1c data }

/-- What a host write may do only while no frame is in progress: while one is, BUSY_ERR is raised and nothing else changes
(42_frame_encoder.md R162; 44_register_access.md R222, R224). -/
def State.unlessBusy (f : State → State) (s : State) : State := if busy s then s.raise .busyErr else f s

/-! ### The frame -/

/-- Acceptance: DONE, TX_FAIL and LEN_ERR are cleared and FC is latched (42_frame_encoder.md R163). -/
def State.latch (c : FrameContext) (s : State) : State := { s with status := s.status.clearResults, fc := c }

/-- The length check failed: LEN_ERR and DONE are set (42_frame_encoder.md R163). -/
def State.refuseLength (s : State) : State := { s with status := (s.status.setError .lenErr).setDone }

/-- Frame start (42_frame_encoder.md R164). -/
def State.startFrame (s : State) : State :=
  { s with frameCrc := crcInit, seqPos := 0, txCount := 0, seqState := .frame }

/-- The transport accepted byte `b`: it joins WIRE, and TX_COUNT and SEQ_POS count it (42_frame_encoder.md R169). -/
def State.sendByte (b : Byte) (s : State) : State :=
  { s with wire := s.wire ++ [b], txCount := s.txCount + 1, seqPos := s.seqPos + 1 }

/-- An accepted body byte is folded into FRAME_CRC (42_frame_encoder.md R170). -/
def State.foldFrame (b : Byte) (s : State) : State := { s with frameCrc := fold s.frameCrc b }

/-- `complete()` (42_frame_encoder.md R172). -/
def State.complete (s : State) : State :=
  { s with lastCrc := ~~~ s.frameCrc, seqState := .idle, status := s.status.setDone }

/-- The transport failed the offered byte (42_frame_encoder.md R173). -/
def State.failFrame (s : State) : State :=
  { s with status := (s.status.setError .txFail).setDone, seqState := .idle }

/-! ### RST -/

/-- RST: every register and all hidden state take their reset values and PIXBUF is PIXBUF_INIT again
(70_reset_and_hazards.md R270, R272). The bytes already accepted stay on the wire (R271; 42_frame_encoder.md R178), as do the
record of host reads, what the environment does next and the implementation parameters; the free contents of PIXBUF are drawn
anew. (notes/assumptions/4.md, 7.md) -/
def State.resetBlock (s : State) : State :=
  { State.reset with
    wire := s.wire, rdataLog := s.rdataLog, resets := s.resets + 1, inputs := s.inputs, config := s.config }

end Sys2Proof.Machine
end

