-- ==== Sys2Proof/Machine/Operands.lean ====
section
/-! DEFINITION. The operand a write instruction takes from DATA (30_encoding.md R87): the field of DATA that its register has,
the other bits discarded; for the two WARL registers, the legal value that is stored. -/

namespace Sys2Proof.Machine

/-- DATA[7:0]: the operand of CHANNEL, RECTYPE, COLOR_ORDER, BRIGHTNESS, PB_DATA8 and CRC_DATA. -/
def operand8 (data : Word) : Byte := data.extractLsb' 0 8

/-- DATA[15:0]: the operand of PIXEL_COUNT. -/
def operand16 (data : Word) : Half := data.extractLsb' 0 16

/-- What BUF_LEN stores: `min(DATA, PIXBUF_BYTES)` (10_state.md R31). -/
def bufLenOperand (s : State) (data : Word) : Word := BitVec.ofNat 32 (min data.toNat s.pixbufBytes)

/-- What PB_ADDR stores: `DATA mod PIXBUF_BYTES` (10_state.md R38). -/
def pbAddrOperand (s : State) (data : Word) : Word := BitVec.ofNat 32 (data.toNat % s.pixbufBytes)

end Sys2Proof.Machine
end

