-- ==== Sys2Proof/Machine/CrcEngine.lean ====
section
/-! DEFINITION. The host instructions on CRC_STATE (40_crc32.md R127 to R134). None of them looks at BUSY or touches the
frame's FRAME_CRC. -/

namespace Sys2Proof.Machine

/-- `WR_CRC_INIT` (R127): DATA is ignored. -/
def execWrCrcInit (_data : Word) (s : State) : Host.Outcome State Fault Refusal := .next (s.setCrcState crcInit)

/-- `WR_CRC_DATA` (R128): the byte DATA[7:0] is folded in. -/
def execWrCrcData (data : Word) (s : State) : Host.Outcome State Fault Refusal := .next (s.setCrcState (fold s.crcState (operand8 data)))

/-- `RD_CRC_RESULT` (R129). -/
def execRdCrcResult (s : State) : Host.Outcome State Fault Refusal := .next (s.respond (~~~ s.crcState))

/-- `RD_CRC_STATE` (R130). -/
def execRdCrcState (s : State) : Host.Outcome State Fault Refusal := .next (s.respond s.crcState)

/-- `RD_CRC_INIT` (R131): a write-only register reads 0. -/
def execRdCrcInit (s : State) : Host.Outcome State Fault Refusal := .next (s.respond 0#32)

/-- `RD_CRC_DATA` (R132): a write-only register reads 0, and nothing is folded. -/
def execRdCrcData (s : State) : Host.Outcome State Fault Refusal := .next (s.respond 0#32)

/-- `WR_CRC_RESULT` (R133): a read-only register; DATA is discarded. -/
def execWrCrcResult (_data : Word) (s : State) : Host.Outcome State Fault Refusal := .next s

/-- `WR_CRC_STATE` (R134): a read-only register; the engine cannot be seeded. -/
def execWrCrcState (_data : Word) (s : State) : Host.Outcome State Fault Refusal := .next s

end Sys2Proof.Machine
end

