-- ==== Sys2Proof/Machine/ColorOrder.lean ====
section
/-! DEFINITION. The color-order model (43_color_order.md): the packed byte and its four 2-bit indices. The block moves the
byte and never applies it (R195). -/

namespace Sys2Proof.Machine

/-- The 4-tuple of 2-bit indices (43_color_order.md R190). -/
structure ColorOrder where
  red   : BitVec 2
  green : BitVec 2
  blue  : BitVec 2
  white : BitVec 2
deriving DecidableEq, Repr

/-- `pack(r, g, b, w) = (w << 6) | (b << 4) | (g << 2) | r` (43_color_order.md R191). -/
def colorPack (o : ColorOrder) : Byte :=
  (o.white.setWidth 8 <<< 6) ||| (o.blue.setWidth 8 <<< 4) ||| (o.green.setWidth 8 <<< 2) ||| o.red.setWidth 8

/-- `unpack(v) = (v[1:0], v[3:2], v[5:4], v[7:6])` (43_color_order.md R192). -/
def colorUnpack (v : Byte) : ColorOrder where
  red   := v.extractLsb' 0 2
  green := v.extractLsb' 2 2
  blue  := v.extractLsb' 4 2
  white := v.extractLsb' 6 2

/-- The preset RGB = 0x24 (43_color_order.md R193). -/
def colorRgb : Byte := 0x24#8

/-- The preset BGR = 0x06 (43_color_order.md R193). -/
def colorBgr : Byte := 0x06#8

/-- The color-order byte an APA102_DATA descriptor carries: the white index is sent as 00 (41_descriptor.md R145). -/
def colorWithoutWhite (v : Byte) : Byte := v &&& 0x3F#8

end Sys2Proof.Machine
end

