-- ==== Sys2Proof/Machine/Descriptor.lean ====
section
/-! DEFINITION. The Channel Descriptor Builder (41_descriptor.md) and the frame it builds (30_encoding.md R100 to R111): pure
functions of a frame context and of the pixel buffer, given as the function from address to byte. -/

namespace Sys2Proof.Machine

/-- The record types (30_encoding.md R90). -/
inductive RecordType where
  | ws2812
  | drawAll
  | apa102Data
  | apa102Clock
  | unrecognised
deriving DecidableEq, Repr

/-- The record type of an RT byte: 1 to 4, and every other value unrecognised (30_encoding.md R90). -/
def recordType (rt : Byte) : RecordType :=
  if rt = 1 then .ws2812
  else if rt = 2 then .drawAll
  else if rt = 3 then .apa102Data
  else if rt = 4 then .apa102Clock
  else .unrecognised

/-- `N_EFF(rt, n)`, the effective pixel count (41_descriptor.md R141). -/
def nEff (rt : Byte) (n : Half) : Nat :=
  match recordType rt with
  | .ws2812 => n.toNat
  | .apa102Data => n.toNat
  | .drawAll => 0
  | .apa102Clock => 0
  | .unrecognised => 0

/-- `NEED(rt, n) = 3 x N_EFF(rt, n)`, the pixel-buffer bytes a frame needs (41_descriptor.md R142). -/
def need (rt : Byte) (n : Half) : Nat := 3 * nEff rt n

/-- "UPXL" (00_scope.md R13). -/
def magic : List Byte := [0x55#8, 0x50#8, 0x58#8, 0x4C#8]

/-- HEADER (30_encoding.md R101). -/
def header (c : FrameContext) : List Byte := magic ++ [c.ch, c.rt]

/-- The element count every WS2812 descriptor carries (41_descriptor.md R144). -/
def elementCount : Byte := 0x03#8

/-- DESC (41_descriptor.md R143 to R148; layouts 30_encoding.md R102 to R105). -/
def descriptor (c : FrameContext) : List Byte :=
  match recordType c.rt with
  | .ws2812 => [elementCount, c.co] ++ le16 c.n
  | .apa102Data => le32 c.freq ++ [colorWithoutWhite c.co] ++ le16 c.n
  | .apa102Clock => le32 c.freq
  | .drawAll => []
  | .unrecognised => []

/-- BR5, the brightness byte sent: the low 5 bits (41_descriptor.md R151; 90_conflicts.md C2 takes masking). -/
def brightness5 (br : Byte) : Byte := br &&& 0x1F#8

/-- One APA102_DATA pixel: its three color bytes and the brightness (41_descriptor.md R150). -/
def apaPixel (br : Byte) (pb : Nat → Byte) (i : Nat) : List Byte :=
  [pb (3 * i), pb (3 * i + 1), pb (3 * i + 2), brightness5 br]

/-- PAYLOAD (41_descriptor.md R149, R150, R152). -/
def payload (c : FrameContext) (pb : Nat → Byte) : List Byte :=
  match recordType c.rt with
  | .ws2812 => (List.range (3 * c.n.toNat)).map pb
  | .apa102Data => (List.range c.n.toNat).flatMap (apaPixel c.br pb)
  | .drawAll => []
  | .apa102Clock => []
  | .unrecognised => []

/-- BODY (41_descriptor.md R153). -/
def body (c : FrameContext) (pb : Nat → Byte) : List Byte := header c ++ descriptor c ++ payload c pb

/-- FRAME (30_encoding.md R100, R108). -/
def frame (c : FrameContext) (pb : Nat → Byte) : List Byte := body c pb ++ le32 (crc32 (body c pb))

/-- `|BODY|` by record type (41_descriptor.md R153). -/
def bodyLength (c : FrameContext) : Nat :=
  match recordType c.rt with
  | .ws2812 => 10 + 3 * c.n.toNat
  | .apa102Data => 13 + 4 * c.n.toNat
  | .apa102Clock => 10
  | .drawAll => 6
  | .unrecognised => 6

/-- W, the wire bytes of one pixel by record type (41_descriptor.md R155). -/
def pixelWidth (rt : Byte) : Nat :=
  match recordType rt with
  | .ws2812 => 3
  | .apa102Data => 4
  | .drawAll => 0
  | .apa102Clock => 0
  | .unrecognised => 0

/-- FC of COMMIT: the constants of 42_frame_encoder.md R160. -/
def commitContext : FrameContext := { ch := 0xFF#8, rt := 0x02#8, co := 0, n := 0, freq := 0, br := 0 }

/-- FC of SEND_CHANNEL: the argument registers as they stand (42_frame_encoder.md R160). -/
def argumentContext (s : State) : FrameContext where
  ch := s.channel
  rt := s.rectype
  co := s.colorOrder
  n := s.pixelCount
  freq := s.frequency
  br := s.brightness

end Sys2Proof.Machine
end

