-- ==== Sys2Proof/Machine/FrameEncoder.lean ====
section
/-! DEFINITION. The Frame Encoder (42_frame_encoder.md): what a command does at acceptance (R160 to R164), the command
instructions (R161, R165, R166), and the sequencer and transport steps (R167 to R174). -/

namespace Sys2Proof.Machine

/-! ### Commands -/

/-- A valid command whose context is `c`, while no frame is in progress (42_frame_encoder.md R163, R164): the results are
cleared and FC latched, then the length check refuses the command or the frame starts. No byte is emitted. -/
def acceptCommand (c : FrameContext) (s : State) : State :=
  if need c.rt c.n > s.bufLen.toNat then (s.latch c).refuseLength else (s.latch c).startFrame

/-- A valid command: refused with BUSY_ERR while a frame is in progress (R162), accepted otherwise (R160). -/
def runCommand (c : FrameContext) (s : State) : State := s.unlessBusy (acceptCommand c)

/-- `CMD_SEND_CHANNEL` (42_frame_encoder.md R165): DATA[31:8] are ignored (30_encoding.md R83). -/
def execCmdSendChannel (_data : Word) (s : State) : Host.Outcome State Fault Refusal := .next (runCommand (argumentContext s) s)

/-- `CMD_COMMIT` (42_frame_encoder.md R166): the argument registers are not read. -/
def execCmdCommit (_data : Word) (s : State) : Host.Outcome State Fault Refusal := .next (runCommand commitContext s)

/-- A reserved opcode raises CMD_ERR, busy or not, and has no other effect (42_frame_encoder.md R161). -/
def reservedCommand (s : State) : State := s.raise .cmdErr

/-- `CMD_RESERVED_00` (42_frame_encoder.md R161): 0x00 is not a no-operation. -/
def execCmdReserved00 (_data : Word) (s : State) : Host.Outcome State Fault Refusal := .next (reservedCommand s)

/-- `CMD_RESERVED_03` (42_frame_encoder.md R161). -/
def execCmdReserved03 (_data : Word) (s : State) : Host.Outcome State Fault Refusal := .next (reservedCommand s)

/-- `CMD_RESERVED_04_07` (42_frame_encoder.md R161). -/
def execCmdReserved0407 (_data : Word) (s : State) : Host.Outcome State Fault Refusal := .next (reservedCommand s)

/-- `CMD_RESERVED_08_0F` (42_frame_encoder.md R161). -/
def execCmdReserved080F (_data : Word) (s : State) : Host.Outcome State Fault Refusal := .next (reservedCommand s)

/-- `CMD_RESERVED_10_1F` (42_frame_encoder.md R161). -/
def execCmdReserved101F (_data : Word) (s : State) : Host.Outcome State Fault Refusal := .next (reservedCommand s)

/-- `CMD_RESERVED_20_3F` (42_frame_encoder.md R161). -/
def execCmdReserved203F (_data : Word) (s : State) : Host.Outcome State Fault Refusal := .next (reservedCommand s)

/-- `CMD_RESERVED_40_7F` (42_frame_encoder.md R161). -/
def execCmdReserved407F (_data : Word) (s : State) : Host.Outcome State Fault Refusal := .next (reservedCommand s)

/-- `CMD_RESERVED_80_FF` (42_frame_encoder.md R161). -/
def execCmdReserved80FF (_data : Word) (s : State) : Host.Outcome State Fault Refusal := .next (reservedCommand s)

/-! ### The sequencer and the transport -/

/-- BODY of the frame in progress (41_descriptor.md R153). -/
def State.frameBody (s : State) : List Byte := body s.fc s.pb

/-- FRAME of the frame in progress (42_frame_encoder.md R164). -/
def State.frameBytes (s : State) : List Byte := frame s.fc s.pb

/-- `byte_at(p)` (42_frame_encoder.md R168): a body byte, and from position L on a byte of the complemented FRAME_CRC, least
significant first. Past L + 3, where R41 says SEQ_POS never is, the shift leaves 0 (notes/assumptions/13.md). -/
def byteAt (s : State) (p : Nat) : Byte :=
  match s.frameBody[p]? with
  | some b => b
  | none => byteOf (~~~ s.frameCrc) (p - s.frameBody.length)

/-- TX_VALID (10_state.md R45; 70_reset_and_hazards.md R273). -/
def txValid (s : State) : Bool := busy s

/-- The byte on offer: TX_DATA while TX_VALID = 1. While IDLE nothing is offered and TX_DATA is unspecified, so no value is
given (42_frame_encoder.md R167; 10_state.md R45; notes/assumptions/12.md). -/
def offered (s : State) : Option Byte := if txValid s then some (byteAt s s.seqPos) else none

/-- The state after the transport accepts the offered byte, before the check for the end of the frame: a body byte is folded
into FRAME_CRC, a checksum byte is not (42_frame_encoder.md R169, R170). -/
def sendOffered (s : State) : State :=
  let b := byteAt s s.seqPos
  if s.seqPos < s.frameBody.length then (s.foldFrame b).sendByte b else s.sendByte b

/-- Transport step `accept` (42_frame_encoder.md R169, R172). -/
def acceptByte (s : State) : State :=
  if s.seqPos + 1 = s.frameBody.length + 4 then (sendOffered s).complete else sendOffered s

/-- What the transport's signals do: a handshake needs TX_VALID = 1 and TX_READY = 1, and TX_ERR says whether it accepts or
fails the byte; without one nothing happens (10_state.md R45; 42_frame_encoder.md R169, R173, R174). -/
def transportStep (txReady txErr : Bool) (s : State) : State :=
  if txValid s && txReady then if txErr then s.failFrame else acceptByte s else s

end Sys2Proof.Machine
end

