-- ==== Sys2Proof/Machine/RegisterAccess.lean ====
section
/-! DEFINITION. The register access instructions (44_register_access.md R200 to R230). Unless an instruction says otherwise it
may be issued busy or not, and raises no error. -/

namespace Sys2Proof.Machine

/-- The identification constant, the bytes "UPXL" read as a little-endian word (10_state.md R22). -/
def idValue : Word := 0x4C585055#32

/-! ### Identification, command and status -/

/-- `RD_ID` (R200). -/
def execRdId (s : State) : Host.Outcome State Fault Refusal := .next (s.respond idValue)

/-- `WR_ID` (R201): a read-only register; DATA is discarded. -/
def execWrId (_data : Word) (s : State) : Host.Outcome State Fault Refusal := .next s

/-- `RD_CMD` (R202): a write-only register reads 0. -/
def execRdCmd (s : State) : Host.Outcome State Fault Refusal := .next (s.respond 0#32)

/-- `RD_STATUS` (R203): reading clears nothing. -/
def execRdStatus (s : State) : Host.Outcome State Fault Refusal := .next (s.respond (statusWord s))

/-- `WR_STATUS` (R204): W1C; BUSY cannot be written. -/
def execWrStatus (data : Word) (s : State) : Host.Outcome State Fault Refusal := .next (s.w1c data)

/-! ### The argument registers: a write while a frame is in progress is allowed and changes only later commands (20_memory.md R72) -/

/-- `RD_CHANNEL` (R205): the register, not FC_CH. -/
def execRdChannel (s : State) : Host.Outcome State Fault Refusal := .next (s.respond (zext32 s.channel))

/-- `WR_CHANNEL` (R206): no range check. -/
def execWrChannel (data : Word) (s : State) : Host.Outcome State Fault Refusal := .next (s.setChannel (operand8 data))

/-- `RD_RECTYPE` (R207). -/
def execRdRectype (s : State) : Host.Outcome State Fault Refusal := .next (s.respond (zext32 s.rectype))

/-- `WR_RECTYPE` (R208). -/
def execWrRectype (data : Word) (s : State) : Host.Outcome State Fault Refusal := .next (s.setRectype (operand8 data))

/-- `RD_COLOR_ORDER` (R209): all 8 bits as written. -/
def execRdColorOrder (s : State) : Host.Outcome State Fault Refusal := .next (s.respond (zext32 s.colorOrder))

/-- `WR_COLOR_ORDER` (R210). -/
def execWrColorOrder (data : Word) (s : State) : Host.Outcome State Fault Refusal := .next (s.setColorOrder (operand8 data))

/-- `RD_PIXEL_COUNT` (R211): the register, not the effective count. -/
def execRdPixelCount (s : State) : Host.Outcome State Fault Refusal := .next (s.respond (zext32 s.pixelCount))

/-- `WR_PIXEL_COUNT` (R212). -/
def execWrPixelCount (data : Word) (s : State) : Host.Outcome State Fault Refusal := .next (s.setPixelCount (operand16 data))

/-- `RD_FREQUENCY` (R213). -/
def execRdFrequency (s : State) : Host.Outcome State Fault Refusal := .next (s.respond s.frequency)

/-- `WR_FREQUENCY` (R214). -/
def execWrFrequency (data : Word) (s : State) : Host.Outcome State Fault Refusal := .next (s.setFrequency data)

/-- `RD_BRIGHTNESS` (R215): as written, not masked. -/
def execRdBrightness (s : State) : Host.Outcome State Fault Refusal := .next (s.respond (zext32 s.brightness))

/-- `WR_BRIGHTNESS` (R216). -/
def execWrBrightness (data : Word) (s : State) : Host.Outcome State Fault Refusal := .next (s.setBrightness (operand8 data))

/-! ### The pixel-buffer registers -/

/-- `RD_BUF_LEN` (R217). -/
def execRdBufLen (s : State) : Host.Outcome State Fault Refusal := .next (s.respond s.bufLen)

/-- `WR_BUF_LEN` (R218): `min(DATA, PIXBUF_BYTES)` is stored. -/
def execWrBufLen (data : Word) (s : State) : Host.Outcome State Fault Refusal := .next (s.setBufLen (bufLenOperand s data))

/-- `RD_PB_ADDR` (R219). -/
def execRdPbAddr (s : State) : Host.Outcome State Fault Refusal := .next (s.respond s.pbAddr)

/-- `WR_PB_ADDR` (R220): `DATA mod PIXBUF_BYTES` is stored. -/
def execWrPbAddr (data : Word) (s : State) : Host.Outcome State Fault Refusal := .next (s.setPbAddr (pbAddrOperand s data))

/-- `RD_PB_DATA` (R221): four bytes, little-endian; PB_ADDR does not advance. -/
def execRdPbData (s : State) : Host.Outcome State Fault Refusal := .next (s.respond (s.memRead4 s.pbAddr.toNat))

/-- `WR_PB_DATA` (R222): four bytes stored and PB_ADDR advanced by 4, or BUSY_ERR. -/
def execWrPbData (data : Word) (s : State) : Host.Outcome State Fault Refusal := .next (s.unlessBusy (State.storePixels (le32 data)))

/-- `RD_PB_DATA8` (R223): one byte; PB_ADDR does not advance. -/
def execRdPbData8 (s : State) : Host.Outcome State Fault Refusal := .next (s.respond (zext32 (s.pb s.pbAddr.toNat)))

/-- `WR_PB_DATA8` (R224): one byte stored and PB_ADDR advanced by 1, or BUSY_ERR. -/
def execWrPbData8 (data : Word) (s : State) : Host.Outcome State Fault Refusal := .next (s.unlessBusy (State.storePixels [operand8 data]))

/-! ### Observation registers -/

/-- `RD_LAST_CRC` (R225). -/
def execRdLastCrc (s : State) : Host.Outcome State Fault Refusal := .next (s.respond s.lastCrc)

/-- `WR_LAST_CRC` (R226): a read-only register; DATA is discarded. -/
def execWrLastCrc (_data : Word) (s : State) : Host.Outcome State Fault Refusal := .next s

/-- `RD_TX_COUNT` (R227). -/
def execRdTxCount (s : State) : Host.Outcome State Fault Refusal := .next (s.respond s.txCount)

/-- `WR_TX_COUNT` (R228): a read-only register; DATA is discarded. -/
def execWrTxCount (_data : Word) (s : State) : Host.Outcome State Fault Refusal := .next s

/-! ### Reserved offsets read 0 and ignore writes -/

/-- `RD_RESERVED_4C` (R229). -/
def execRdReserved4C (s : State) : Host.Outcome State Fault Refusal := .next (s.respond 0#32)

/-- `RD_RESERVED_50_5C` (R229). -/
def execRdReserved505C (_off : Byte) (s : State) : Host.Outcome State Fault Refusal := .next (s.respond 0#32)

/-- `RD_RESERVED_60_7C` (R229). -/
def execRdReserved607C (_off : Byte) (s : State) : Host.Outcome State Fault Refusal := .next (s.respond 0#32)

/-- `RD_RESERVED_80_FC` (R229). -/
def execRdReserved80FC (_off : Byte) (s : State) : Host.Outcome State Fault Refusal := .next (s.respond 0#32)

/-- `WR_RESERVED_4C` (R230). -/
def execWrReserved4C (_data : Word) (s : State) : Host.Outcome State Fault Refusal := .next s

/-- `WR_RESERVED_50_5C` (R230). -/
def execWrReserved505C (_off : Byte) (_data : Word) (s : State) : Host.Outcome State Fault Refusal := .next s

/-- `WR_RESERVED_60_7C` (R230). -/
def execWrReserved607C (_off : Byte) (_data : Word) (s : State) : Host.Outcome State Fault Refusal := .next s

/-- `WR_RESERVED_80_FC` (R230). -/
def execWrReserved80FC (_off : Byte) (_data : Word) (s : State) : Host.Outcome State Fault Refusal := .next s

end Sys2Proof.Machine
end

