-- ==== Sys2Proof/Machine/Dispatch.lean ====
section
/-! DEFINITION. What each instruction does: one arm per row of the opcode table, in the table's order. -/

namespace Sys2Proof.Machine

def exec (i : Instr) (s : State) : Host.Outcome State Fault Refusal :=
  match i with
  | .rdId => Sys2Proof.Machine.execRdId s
  | .wrId data => Sys2Proof.Machine.execWrId data s
  | .rdCmd => Sys2Proof.Machine.execRdCmd s
  | .cmdSendChannel data => Sys2Proof.Machine.execCmdSendChannel data s
  | .cmdCommit data => Sys2Proof.Machine.execCmdCommit data s
  | .cmdReserved00 data => Sys2Proof.Machine.execCmdReserved00 data s
  | .cmdReserved03 data => Sys2Proof.Machine.execCmdReserved03 data s
  | .cmdReserved0407 data => Sys2Proof.Machine.execCmdReserved0407 data s
  | .cmdReserved080F data => Sys2Proof.Machine.execCmdReserved080F data s
  | .cmdReserved101F data => Sys2Proof.Machine.execCmdReserved101F data s
  | .cmdReserved203F data => Sys2Proof.Machine.execCmdReserved203F data s
  | .cmdReserved407F data => Sys2Proof.Machine.execCmdReserved407F data s
  | .cmdReserved80FF data => Sys2Proof.Machine.execCmdReserved80FF data s
  | .rdStatus => Sys2Proof.Machine.execRdStatus s
  | .wrStatus data => Sys2Proof.Machine.execWrStatus data s
  | .rdChannel => Sys2Proof.Machine.execRdChannel s
  | .wrChannel data => Sys2Proof.Machine.execWrChannel data s
  | .rdRectype => Sys2Proof.Machine.execRdRectype s
  | .wrRectype data => Sys2Proof.Machine.execWrRectype data s
  | .rdColorOrder => Sys2Proof.Machine.execRdColorOrder s
  | .wrColorOrder data => Sys2Proof.Machine.execWrColorOrder data s
  | .rdPixelCount => Sys2Proof.Machine.execRdPixelCount s
  | .wrPixelCount data => Sys2Proof.Machine.execWrPixelCount data s
  | .rdFrequency => Sys2Proof.Machine.execRdFrequency s
  | .wrFrequency data => Sys2Proof.Machine.execWrFrequency data s
  | .rdBrightness => Sys2Proof.Machine.execRdBrightness s
  | .wrBrightness data => Sys2Proof.Machine.execWrBrightness data s
  | .rdBufLen => Sys2Proof.Machine.execRdBufLen s
  | .wrBufLen data => Sys2Proof.Machine.execWrBufLen data s
  | .rdPbAddr => Sys2Proof.Machine.execRdPbAddr s
  | .wrPbAddr data => Sys2Proof.Machine.execWrPbAddr data s
  | .rdPbData => Sys2Proof.Machine.execRdPbData s
  | .wrPbData data => Sys2Proof.Machine.execWrPbData data s
  | .rdPbData8 => Sys2Proof.Machine.execRdPbData8 s
  | .wrPbData8 data => Sys2Proof.Machine.execWrPbData8 data s
  | .rdCrcInit => Sys2Proof.Machine.execRdCrcInit s
  | .wrCrcInit data => Sys2Proof.Machine.execWrCrcInit data s
  | .rdCrcData => Sys2Proof.Machine.execRdCrcData s
  | .wrCrcData data => Sys2Proof.Machine.execWrCrcData data s
  | .rdCrcResult => Sys2Proof.Machine.execRdCrcResult s
  | .wrCrcResult data => Sys2Proof.Machine.execWrCrcResult data s
  | .rdCrcState => Sys2Proof.Machine.execRdCrcState s
  | .wrCrcState data => Sys2Proof.Machine.execWrCrcState data s
  | .rdLastCrc => Sys2Proof.Machine.execRdLastCrc s
  | .wrLastCrc data => Sys2Proof.Machine.execWrLastCrc data s
  | .rdTxCount => Sys2Proof.Machine.execRdTxCount s
  | .wrTxCount data => Sys2Proof.Machine.execWrTxCount data s
  | .rdReserved4C => Sys2Proof.Machine.execRdReserved4C s
  | .rdReserved505C off => Sys2Proof.Machine.execRdReserved505C off s
  | .rdReserved607C off => Sys2Proof.Machine.execRdReserved607C off s
  | .rdReserved80FC off => Sys2Proof.Machine.execRdReserved80FC off s
  | .wrReserved4C data => Sys2Proof.Machine.execWrReserved4C data s
  | .wrReserved505C off data => Sys2Proof.Machine.execWrReserved505C off data s
  | .wrReserved607C off data => Sys2Proof.Machine.execWrReserved607C off data s
  | .wrReserved80FC off data => Sys2Proof.Machine.execWrReserved80FC off data s

end Sys2Proof.Machine
end

