-- ==== Sys2Proof/Machine/HostPort.lean ====
section
/-! DEFINITION. The host port (10_state.md R46; 30_encoding.md R80 to R82): an access is decoded and its instruction run in one
atomic step, or it is no transaction of the port and is refused by name (60_exceptions.md R246). -/

namespace Sys2Proof.Machine

/-- The refusal of an access that does not decode. -/
def refusalOf : DecodeError → Refusal
  | .width bits => .accessWidth bits
  | .misaligned off => .misaligned off

/-- One host step (20_memory.md R68). -/
def runHost (a : HostAccess) (s : State) : Host.Outcome State Fault Refusal :=
  match decodeAccess a with
  | .ok i => exec i s
  | .error e => .refused (refusalOf e)

/-- What one input of the environment does, the rest of the inputs already in `s` (00_scope.md R15; 20_memory.md R70). -/
def runInput (e : Input) (s : State) : Host.Outcome State Fault Refusal :=
  match e with
  | .host a => runHost a s
  | .transport txReady txErr => .next (transportStep txReady txErr s)
  | .reset => .next s.resetBlock

end Sys2Proof.Machine
end

