-- ==== Sys2Proof/Machine/Step.lean ====
section
/-! DEFINITION. One step of the machine: the next thing the environment does, as one atomic step (20_memory.md R70). The
block fetches no instructions (20_memory.md R64); where it would, the next host access arrives. -/

namespace Sys2Proof.Machine

/-- One step. When the environment does nothing the block waits (42_frame_encoder.md R174; 70_reset_and_hazards.md R274). -/
def step (s : State) : Host.Outcome State Fault Refusal :=
  match s.inputs with
  | [] => .next s
  | e :: rest => runInput e (s.setInputs rest)

/-- `s` with the host about to present the access that carries the low `nbits` bits of `w`: nothing else changes.
(notes/assumptions/2.md, 10.md) -/
def State.withFetchWord (s : State) (nbits w : Nat) : State :=
  { s with inputs := .host (tableAccess nbits w) :: s.inputs }

end Sys2Proof.Machine
end

