-- ==== Sys2Proof/Machine/Assembler.lean ====
section
/-! DEFINITION. Host programs as 30_encoding.md R88 and R89 write them: the register names and offsets of 10_state.md R21, the
transactions `WR <reg>, <value>` and `RD <reg>`, and the expansions of the pseudo-instructions. These are the host's side:
the block sees only the transactions. A POLL repeats RD STATUS until BUSY reads 0; how often is the host's and the
transport's affair, so it is given as a number of reads (notes/assumptions/17.md). -/

namespace Sys2Proof.Machine

/-- The host-visible registers (10_state.md R21). -/
inductive HostReg where
  | id | cmd | status | channel | rectype | colorOrder | pixelCount | frequency | brightness | bufLen | pbAddr | pbData
  | pbData8 | crcInit | crcData | crcResult | crcState | lastCrc | txCount
deriving DecidableEq, Repr

/-- The access a register allows (10_state.md R21). -/
inductive RegAccess where
  | ro | wo | roW1c | rw | rwWarl | rwWindow
deriving DecidableEq, Repr

/-- The offset of a register (10_state.md R21). -/
def regOffset : HostReg → Byte
  | .id => 0x00#8
  | .cmd => 0x04#8
  | .status => 0x08#8
  | .channel => 0x0C#8
  | .rectype => 0x10#8
  | .colorOrder => 0x14#8
  | .pixelCount => 0x18#8
  | .frequency => 0x1C#8
  | .brightness => 0x20#8
  | .bufLen => 0x24#8
  | .pbAddr => 0x28#8
  | .pbData => 0x2C#8
  | .pbData8 => 0x30#8
  | .crcInit => 0x34#8
  | .crcData => 0x38#8
  | .crcResult => 0x3C#8
  | .crcState => 0x40#8
  | .lastCrc => 0x44#8
  | .txCount => 0x48#8

/-- The access column of 10_state.md R21. -/
def regAccess : HostReg → RegAccess
  | .id | .crcResult | .crcState | .lastCrc | .txCount => .ro
  | .cmd | .crcInit | .crcData => .wo
  | .status => .roW1c
  | .channel | .rectype | .colorOrder | .pixelCount | .frequency | .brightness => .rw
  | .bufLen | .pbAddr => .rwWarl
  | .pbData | .pbData8 => .rwWindow

/-- `WR <reg>, <value>` (30_encoding.md R88). -/
def asmWr (r : HostReg) (v : Word) : TxnWord := txnWord true (regOffset r) v

/-- `RD <reg>` (30_encoding.md R88). -/
def asmRd (r : HostReg) : TxnWord := txnWord false (regOffset r) 0#32

/-- The host access that carries a transaction. -/
def access (t : TxnWord) : HostAccess := ⟨32, t⟩

/-- `SEND` (30_encoding.md R89). -/
def asmSend : List TxnWord := [asmWr .cmd 0x01#32]

/-- `COMMIT` (30_encoding.md R89). -/
def asmCommit : List TxnWord := [asmWr .cmd 0x02#32]

/-- `CRCINIT` (30_encoding.md R89). -/
def asmCrcInit : List TxnWord := [asmWr .crcInit 0#32]

/-- `CRCB b` (30_encoding.md R89). -/
def asmCrcByte (b : Byte) : List TxnWord := [asmWr .crcData (zext32 b)]

/-- `CRCS s` (30_encoding.md R89). -/
def asmCrcString (s : List Byte) : List TxnWord := s.flatMap asmCrcByte

/-- `PBLOAD s` (30_encoding.md R89). -/
def asmPbLoad (s : List Byte) : List TxnWord :=
  [asmWr .pbAddr 0#32] ++ s.map (fun b => asmWr .pbData8 (zext32 b)) ++ [asmWr .bufLen (BitVec.ofNat 32 s.length)]

/-- `CLRSTAT` (30_encoding.md R89). -/
def asmClrStat : List TxnWord := [asmWr .status 0x3E#32]

/-- `CFG ch, rt, co, n, f, br` (30_encoding.md R89). -/
def asmCfg (ch rt co : Byte) (n : Half) (f : Word) (br : Byte) : List TxnWord :=
  [asmWr .channel (zext32 ch), asmWr .rectype (zext32 rt), asmWr .colorOrder (zext32 co),
   asmWr .pixelCount (zext32 n), asmWr .frequency f, asmWr .brightness (zext32 br)]

/-- `POLL STATUS.BUSY == 0` that takes `reads` reads (30_encoding.md R88). -/
def asmPoll (reads : Nat) : List TxnWord := List.replicate reads (asmRd .status)

/-- The value of STATUS that ends a POLL: bit 0 reads 0 (30_encoding.md R88). -/
def pollEnds (rdata : Word) : Bool := !rdata.getLsbD 0

/-- `SEND_CHANNEL ch, rt, co, n, f, br` whose POLL takes `reads` reads (30_encoding.md R89). -/
def asmSendChannel (ch rt co : Byte) (n : Half) (f : Word) (br : Byte) (reads : Nat) : List TxnWord :=
  asmCfg ch rt co n f br ++ asmSend ++ asmPoll reads

/-- `COMMIT_WAIT` whose POLL takes `reads` reads (30_encoding.md R89). -/
def asmCommitWait (reads : Nat) : List TxnWord := asmCommit ++ asmPoll reads

end Sys2Proof.Machine
end

