-- ==== Sys2Proof/Safety.lean ====
section
/-! DEFINITION. What holds of the machine in every run from reset, in the terms the statements use: a legal configuration, the
pixel buffer inside its bounds, and, while a frame is in progress, the frame's bookkeeping. -/

namespace Sys2Proof.Machine

/-- The bounds of the pixel buffer and of the two WARL registers (10_state.md R31, R38, R48): the list of written bytes is in
canonical form and inside the buffer, BUF_LEN is at most PIXBUF_BYTES and PB_ADDR is below it. -/
structure State.BufferOk (s : State) : Prop where
  legal     : s.config.Legal
  canonical : s.pixbuf.wf
  inside    : ∀ c ∈ s.pixbuf, c.1 < s.pixbufBytes
  bufLen    : s.bufLen.toNat ≤ s.pixbufBytes
  pbAddr    : s.pbAddr.toNat < s.pixbufBytes

/-- The bookkeeping of the frame in progress (10_state.md R41, R43, R44; 42_frame_encoder.md R163, R169, R170): SEQ_POS is
within the frame, TX_COUNT equals it, FRAME_CRC has folded exactly the body bytes accepted so far, the wire ends with the
bytes of the frame accepted so far, the pixel data fits the buffer, and the result flags are clear. -/
structure State.FrameOk (s : State) : Prop where
  pos     : s.seqPos < s.frameBody.length + 4
  count   : s.txCount = BitVec.ofNat 32 s.seqPos
  crc     : s.frameCrc = rawCrc crcInit (s.frameBody.take s.seqPos)
  sent    : s.frameBytes.take s.seqPos <:+ s.wire
  fits    : need s.fc.rt s.fc.n ≤ s.pixbufBytes
  done    : s.status.done = false
  txFail  : s.status.txFail = false
  lenErr  : s.status.lenErr = false

/-- The invariant of the machine. -/
structure State.Inv (s : State) : Prop where
  buffer : s.BufferOk
  frame  : s.seqState = .frame → s.FrameOk

/-- WIRE as a concatenation of frames and of frames cut short (42_frame_encoder.md R177; 70_reset_and_hazards.md R271): every
earlier piece is the beginning of some frame, and while a frame is in progress the last piece is the bytes of that frame
accepted so far. -/
def State.WireFramed (s : State) : Prop :=
  ∃ pieces : List (List Byte),
    s.wire = pieces.flatten ++ (if s.seqState = .frame then s.frameBytes.take s.seqPos else []) ∧
    ∀ p ∈ pieces, ∃ (c : FrameContext) (pb : Nat → Byte), p <+: frame c pb

/-- The packed write transaction of 30_encoding.md R80 in arithmetic: W = 1, OFF, DATA. -/
def packWrite (off : Nat) (data : Word) : TxnWord := BitVec.ofNat 41 (2 ^ 40 + off * 2 ^ 32 + data.toNat)

/-- The packed read transaction of 30_encoding.md R80 in arithmetic: W = 0, OFF, DATA = 0. -/
def packRead (off : Nat) : TxnWord := BitVec.ofNat 41 (off * 2 ^ 32)

/-- A read instruction: W = 0 (30_encoding.md R80). -/
def isRead (i : Instr) : Bool := !txnIsWrite (encode i)

/-- An input that cannot end a frame but by its last byte: a transaction of the port, or a transport that does not fail. -/
def Input.harmless : Input → Prop
  | .host a => ∃ i, decodeAccess a = .ok i
  | .transport txReady txErr => txReady = true → txErr = false
  | .reset => False

/-- The input is an accepting handshake while a byte is on offer. -/
def Input.accepts : Input → Bool
  | .transport txReady txErr => txReady && !txErr
  | .host _ => false
  | .reset => false

/-- A finite run in which every step answers with a next state. -/
inductive Reaches : State → State → Prop where
  | refl (s : State) : Reaches s s
  | step {s t u : State} : Machine.step s = .next t → Reaches t u → Reaches s u

end Sys2Proof.Machine
end

