-- ==== Sys2Proof/Certificates/Slice0/Obligations.lean ====
section
/-! DEFINITION. The statements about the machine, for the provers. Each docstring names the rules of spec/ it formalises; the
packed words are those of 30_encoding.md R80. -/

open Sys2Proof Sys2Proof.Machine

/-! ### Host reads -/

/-- R205, R207, R209, R211, R213, R215: a read of an argument register returns its field zero-extended, as written, and
changes nothing else, busy or not. -/
def Obligations.ArgumentRegisterReads : Prop :=
  ∀ s : State,
    (decode (packRead 0x0C) = .ok .rdChannel ∧
      exec .rdChannel s = .next { s with rdataLog := s.rdataLog ++ [s.channel.setWidth 32] }) ∧
    (decode (packRead 0x10) = .ok .rdRectype ∧
      exec .rdRectype s = .next { s with rdataLog := s.rdataLog ++ [s.rectype.setWidth 32] }) ∧
    (decode (packRead 0x14) = .ok .rdColorOrder ∧
      exec .rdColorOrder s = .next { s with rdataLog := s.rdataLog ++ [s.colorOrder.setWidth 32] }) ∧
    (decode (packRead 0x18) = .ok .rdPixelCount ∧
      exec .rdPixelCount s = .next { s with rdataLog := s.rdataLog ++ [s.pixelCount.setWidth 32] }) ∧
    (decode (packRead 0x1C) = .ok .rdFrequency ∧
      exec .rdFrequency s = .next { s with rdataLog := s.rdataLog ++ [s.frequency] }) ∧
    (decode (packRead 0x20) = .ok .rdBrightness ∧
      exec .rdBrightness s = .next { s with rdataLog := s.rdataLog ++ [s.brightness.setWidth 32] })

/-- R200, R217, R219 and the value part of R225 and R227: reads of ID, BUF_LEN, PB_ADDR, LAST_CRC and TX_COUNT. -/
def Obligations.ObservationRegisterReads : Prop :=
  ∀ s : State,
    (decode (packRead 0x00) = .ok .rdId ∧
      exec .rdId s = .next { s with rdataLog := s.rdataLog ++ [0x4C585055#32] }) ∧
    (decode (packRead 0x24) = .ok .rdBufLen ∧
      exec .rdBufLen s = .next { s with rdataLog := s.rdataLog ++ [s.bufLen] }) ∧
    (decode (packRead 0x28) = .ok .rdPbAddr ∧
      exec .rdPbAddr s = .next { s with rdataLog := s.rdataLog ++ [s.pbAddr] }) ∧
    (decode (packRead 0x44) = .ok .rdLastCrc ∧
      exec .rdLastCrc s = .next { s with rdataLog := s.rdataLog ++ [s.lastCrc] }) ∧
    (decode (packRead 0x48) = .ok .rdTxCount ∧
      exec .rdTxCount s = .next { s with rdataLog := s.rdataLog ++ [s.txCount] })

/-- R202, R131, R132, R229: a write-only register and every reserved offset read 0, and nothing else changes. -/
def Obligations.WriteOnlyAndReservedReadsReturnZero : Prop :=
  (∀ s : State,
    (decode (packRead 0x04) = .ok .rdCmd ∧ exec .rdCmd s = .next { s with rdataLog := s.rdataLog ++ [0#32] }) ∧
    (decode (packRead 0x34) = .ok .rdCrcInit ∧
      exec .rdCrcInit s = .next { s with rdataLog := s.rdataLog ++ [0#32] }) ∧
    (decode (packRead 0x38) = .ok .rdCrcData ∧
      exec .rdCrcData s = .next { s with rdataLog := s.rdataLog ++ [0#32] }) ∧
    exec .rdReserved4C s = .next { s with rdataLog := s.rdataLog ++ [0#32] } ∧
    (∀ off : Byte,
      exec (.rdReserved505C off) s = .next { s with rdataLog := s.rdataLog ++ [0#32] } ∧
      exec (.rdReserved607C off) s = .next { s with rdataLog := s.rdataLog ++ [0#32] } ∧
      exec (.rdReserved80FC off) s = .next { s with rdataLog := s.rdataLog ++ [0#32] })) ∧
  (∀ (off : Nat), 0x4C ≤ off → off ≤ 0xFC → off % 4 = 0 → ∃ i, decode (packRead off) = .ok i ∧
    ∀ s : State, exec i s = .next { s with rdataLog := s.rdataLog ++ [0#32] })

/-- R203: STATUS reads as BUSY in bit 0, DONE, TX_FAIL, LEN_ERR, BUSY_ERR, CMD_ERR in bits 1 to 5 and 0 above, BUSY being
SEQ_STATE = FRAME; reading clears nothing. -/
def Obligations.StatusReadReportsBusyAndFlags : Prop :=
  decode (packRead 0x08) = .ok .rdStatus ∧
  ∀ s : State, ∃ w : Word,
    exec .rdStatus s = .next { s with rdataLog := s.rdataLog ++ [w] } ∧
    (w.getLsbD 0 = true ↔ s.seqState = .frame) ∧
    w.getLsbD 1 = s.status.done ∧ w.getLsbD 2 = s.status.txFail ∧ w.getLsbD 3 = s.status.lenErr ∧
    w.getLsbD 4 = s.status.busyErr ∧ w.getLsbD 5 = s.status.cmdErr ∧
    ∀ k, 6 ≤ k → w.getLsbD k = false

/-- R221, R223: PB_DATA returns the four bytes at PB_ADDR, least significant first, PB_DATA8 the one, each address taken modulo
PIXBUF_BYTES; a byte never written since reset is PIXBUF_INIT; PB_ADDR does not advance and nothing else changes. -/
def Obligations.PixelBufferReads : Prop :=
  decode (packRead 0x2C) = .ok .rdPbData ∧ decode (packRead 0x30) = .ok .rdPbData8 ∧
  ∀ s : State,
    (∃ w : Word, exec .rdPbData s = .next { s with rdataLog := s.rdataLog ++ [w] } ∧
      ∀ k < 4, w.extractLsb' (8 * k) 8 = s.pb (s.pbAddr.toNat + k)) ∧
    exec .rdPbData8 s = .next { s with rdataLog := s.rdataLog ++ [(s.pb s.pbAddr.toNat).setWidth 32] } ∧
    (∀ a, s.pb a = s.pb (a % 2 ^ s.config.pixbufAw)) ∧
    (∀ a, a < 2 ^ s.config.pixbufAw → (∀ c ∈ s.pixbuf, c.1 ≠ a) → s.pb a = Config.pixbufInit s.resets a)

/-- The first sentence of R69: a read of any offset changes no state of the block; it completes from every state, and the
record of what the port returned grows by one value. -/
def Obligations.ReadsChangeNoBlockState : Prop :=
  ∀ (i : Instr) (s : State), isRead i = true → ∃ v : Word, exec i s = .next { s with rdataLog := s.rdataLog ++ [v] }

/-! ### Host writes -/

/-- R206, R208, R210, R212, R214 and the store of R216: a write of an argument register stores its field of DATA and changes
nothing else, busy or not. -/
def Obligations.ArgumentRegisterWrites : Prop :=
  ∀ (d : Word) (s : State),
    (decode (packWrite 0x0C d) = .ok (.wrChannel d) ∧
      exec (.wrChannel d) s = .next { s with channel := d.setWidth 8 }) ∧
    (decode (packWrite 0x10 d) = .ok (.wrRectype d) ∧
      exec (.wrRectype d) s = .next { s with rectype := d.setWidth 8 }) ∧
    (decode (packWrite 0x14 d) = .ok (.wrColorOrder d) ∧
      exec (.wrColorOrder d) s = .next { s with colorOrder := d.setWidth 8 }) ∧
    (decode (packWrite 0x18 d) = .ok (.wrPixelCount d) ∧
      exec (.wrPixelCount d) s = .next { s with pixelCount := d.setWidth 16 }) ∧
    (decode (packWrite 0x1C d) = .ok (.wrFrequency d) ∧
      exec (.wrFrequency d) s = .next { s with frequency := d }) ∧
    (decode (packWrite 0x20 d) = .ok (.wrBrightness d) ∧
      exec (.wrBrightness d) s = .next { s with brightness := d.setWidth 8 })

/-- R201, R133, R134, R226, R228, R230: a write of a read-only register or of a reserved offset changes nothing. -/
def Obligations.ReadOnlyAndReservedWritesAreIgnored : Prop :=
  (∀ (d : Word) (s : State),
    (decode (packWrite 0x00 d) = .ok (.wrId d) ∧ exec (.wrId d) s = .next s) ∧
    (decode (packWrite 0x3C d) = .ok (.wrCrcResult d) ∧ exec (.wrCrcResult d) s = .next s) ∧
    (decode (packWrite 0x40 d) = .ok (.wrCrcState d) ∧ exec (.wrCrcState d) s = .next s) ∧
    (decode (packWrite 0x44 d) = .ok (.wrLastCrc d) ∧ exec (.wrLastCrc d) s = .next s) ∧
    (decode (packWrite 0x48 d) = .ok (.wrTxCount d) ∧ exec (.wrTxCount d) s = .next s) ∧
    exec (.wrReserved4C d) s = .next s ∧
    (∀ off : Byte, exec (.wrReserved505C off d) s = .next s ∧ exec (.wrReserved607C off d) s = .next s ∧
      exec (.wrReserved80FC off d) s = .next s)) ∧
  (∀ (off : Nat) (d : Word), 0x4C ≤ off → off ≤ 0xFC → off % 4 = 0 → ∃ i, decode (packWrite off d) = .ok i ∧
    ∀ s : State, exec i s = .next s)

/-- R204: a write of STATUS clears each of bits 1 to 5 whose DATA bit is 1, keeps the others, and changes nothing else. -/
def Obligations.StatusWriteClearsOnes : Prop :=
  ∀ (d : Word) (s : State),
    decode (packWrite 0x08 d) = .ok (.wrStatus d) ∧
    exec (.wrStatus d) s = .next { s with status :=
      { done    := if d.getLsbD 1 then false else s.status.done
        txFail  := if d.getLsbD 2 then false else s.status.txFail
        lenErr  := if d.getLsbD 3 then false else s.status.lenErr
        busyErr := if d.getLsbD 4 then false else s.status.busyErr
        cmdErr  := if d.getLsbD 5 then false else s.status.cmdErr } }

/-- R218, R220: BUF_LEN stores `min(DATA, PIXBUF_BYTES)` and PB_ADDR stores `DATA mod PIXBUF_BYTES`, for every legal
PIXBUF_AW; nothing else changes. -/
def Obligations.WarlRegistersStoreLegalValues : Prop :=
  ∀ (d : Word) (s : State), s.config.Legal →
    decode (packWrite 0x24 d) = .ok (.wrBufLen d) ∧ decode (packWrite 0x28 d) = .ok (.wrPbAddr d) ∧
    (∃ v : Word, exec (.wrBufLen d) s = .next { s with bufLen := v } ∧
      v.toNat = min d.toNat (2 ^ s.config.pixbufAw)) ∧
    (∃ v : Word, exec (.wrPbAddr d) s = .next { s with pbAddr := v } ∧
      v.toNat = d.toNat % 2 ^ s.config.pixbufAw)

/-- The idempotence sentence of R69: writing an argument register, BUF_LEN or PB_ADDR twice with one value is writing it
once. -/
def Obligations.ArgumentWritesAreIdempotent : Prop :=
  ∀ (i : Instr) (d : Word) (s t : State),
    i ∈ [Instr.wrChannel d, .wrRectype d, .wrColorOrder d, .wrPixelCount d, .wrFrequency d, .wrBrightness d, .wrBufLen d,
      .wrPbAddr d] →
    exec i s = .next t → exec i t = .next t

/-- R222: PB_DATA stores DATA's four bytes, least significant first, at PB_ADDR to PB_ADDR + 3 modulo PIXBUF_BYTES, leaves
every other byte of the buffer, advances PB_ADDR by 4 modulo PIXBUF_BYTES and changes nothing else; while a frame is in
progress it raises BUSY_ERR and changes nothing else. -/
def Obligations.PixelWordWrite : Prop :=
  ∀ (d : Word) (s : State), s.config.Legal →
    decode (packWrite 0x2C d) = .ok (.wrPbData d) ∧
    (s.seqState = .idle → ∃ (m : Memory) (v : Word),
      exec (.wrPbData d) s = .next { s with pixbuf := m, pbAddr := v } ∧
      v.toNat = (s.pbAddr.toNat + 4) % 2 ^ s.config.pixbufAw ∧
      (∀ k < 4, ({ s with pixbuf := m, pbAddr := v } : State).pb (s.pbAddr.toNat + k) = d.extractLsb' (8 * k) 8) ∧
      (∀ a, (∀ k < 4, a % 2 ^ s.config.pixbufAw ≠ (s.pbAddr.toNat + k) % 2 ^ s.config.pixbufAw) →
        ({ s with pixbuf := m, pbAddr := v } : State).pb a = s.pb a)) ∧
    (s.seqState = .frame →
      exec (.wrPbData d) s = .next { s with status := { s.status with busyErr := true } })

/-- R224: PB_DATA8 stores DATA[7:0] at PB_ADDR, leaves every other byte of the buffer, advances PB_ADDR by 1 modulo
PIXBUF_BYTES and changes nothing else; while a frame is in progress it raises BUSY_ERR and changes nothing else. -/
def Obligations.PixelByteWrite : Prop :=
  ∀ (d : Word) (s : State), s.config.Legal →
    decode (packWrite 0x30 d) = .ok (.wrPbData8 d) ∧
    (s.seqState = .idle → ∃ (m : Memory) (v : Word),
      exec (.wrPbData8 d) s = .next { s with pixbuf := m, pbAddr := v } ∧
      v.toNat = (s.pbAddr.toNat + 1) % 2 ^ s.config.pixbufAw ∧
      ({ s with pixbuf := m, pbAddr := v } : State).pb s.pbAddr.toNat = d.setWidth 8 ∧
      (∀ a, a % 2 ^ s.config.pixbufAw ≠ s.pbAddr.toNat % 2 ^ s.config.pixbufAw →
        ({ s with pixbuf := m, pbAddr := v } : State).pb a = s.pb a)) ∧
    (s.seqState = .frame →
      exec (.wrPbData8 d) s = .next { s with status := { s.status with busyErr := true } })

/-! ### Commands -/

/-- R161: every reserved OPCODE sets CMD_ERR and does nothing else, busy or not, whatever DATA[31:8]. -/
def Obligations.ReservedOpcodesRaiseCmdErr : Prop :=
  (∀ (d : Word) (s : State), ∀ i ∈ [Instr.cmdReserved00 d, .cmdReserved03 d, .cmdReserved0407 d, .cmdReserved080F d,
      .cmdReserved101F d, .cmdReserved203F d, .cmdReserved407F d, .cmdReserved80FF d],
    exec i s = .next { s with status := { s.status with cmdErr := true } }) ∧
  (∀ d : Word, d.toNat % 256 ≠ 1 → d.toNat % 256 ≠ 2 → ∃ i, decode (packWrite 0x04 d) = .ok i ∧
    ∀ s : State, exec i s = .next { s with status := { s.status with cmdErr := true } })

/-- R162: a valid command while a frame is in progress sets BUSY_ERR and changes nothing else. -/
def Obligations.CommandWhileBusyIsDiscarded : Prop :=
  ∀ (d : Word) (s : State), s.seqState = .frame →
    exec (.cmdSendChannel d) s = .next { s with status := { s.status with busyErr := true } } ∧
    exec (.cmdCommit d) s = .next { s with status := { s.status with busyErr := true } }

/-- R163 and R164 for SEND_CHANNEL, with NEED of R141 and R142 written out: from IDLE, with the pixel data inside BUF_LEN, the
results are cleared, FC is latched from the argument registers and the frame starts. -/
def Obligations.SendChannelStartsItsFrame : Prop :=
  ∀ (d : Word) (s : State), s.seqState = .idle →
    (if s.rectype = 1 ∨ s.rectype = 3 then 3 * s.pixelCount.toNat else 0) ≤ s.bufLen.toNat →
    exec (.cmdSendChannel d) s = .next { s with
      status := { s.status with done := false, txFail := false, lenErr := false }
      fc := { ch := s.channel, rt := s.rectype, co := s.colorOrder, n := s.pixelCount, freq := s.frequency,
              br := s.brightness }
      frameCrc := 0xFFFFFFFF#32, seqPos := 0, txCount := 0, seqState := .frame }

/-- R163 for SEND_CHANNEL: from IDLE, with the pixel data longer than BUF_LEN, LEN_ERR and DONE are set, TX_FAIL is cleared, FC
holds the refused arguments, and nothing else changes. -/
def Obligations.SendChannelLengthCheckRefuses : Prop :=
  ∀ (d : Word) (s : State), s.seqState = .idle →
    (if s.rectype = 1 ∨ s.rectype = 3 then 3 * s.pixelCount.toNat else 0) > s.bufLen.toNat →
    exec (.cmdSendChannel d) s = .next { s with
      status := { s.status with done := true, txFail := false, lenErr := true }
      fc := { ch := s.channel, rt := s.rectype, co := s.colorOrder, n := s.pixelCount, freq := s.frequency,
              br := s.brightness } }

/-- R163 and R164 for COMMIT: from IDLE it always starts the frame of the constant context, whatever BUF_LEN and the argument
registers hold. -/
def Obligations.CommitStartsItsFrame : Prop :=
  ∀ (d : Word) (s : State), s.seqState = .idle →
    exec (.cmdCommit d) s = .next { s with
      status := { s.status with done := false, txFail := false, lenErr := false }
      fc := { ch := 0xFF#8, rt := 0x02#8, co := 0, n := 0, freq := 0, br := 0 }
      frameCrc := 0xFFFFFFFF#32, seqPos := 0, txCount := 0, seqState := .frame }

/-- R160, whole, with its parts R161 to R164: the effect of every write of CMD, decoded from its word, is the pseudocode's. -/
def Obligations.CmdWriteFollowsItsPseudocode : Prop :=
  ∀ (d : Word) (s : State), ∃ i, decode (packWrite 0x04 d) = .ok i ∧ exec i s =
    (let op := d.toNat % 256
     if op ≠ 1 ∧ op ≠ 2 then .next { s with status := { s.status with cmdErr := true } }
     else if s.seqState = .frame then .next { s with status := { s.status with busyErr := true } }
     else
       let c : FrameContext :=
         if op = 1 then
           { ch := s.channel, rt := s.rectype, co := s.colorOrder, n := s.pixelCount, freq := s.frequency,
             br := s.brightness }
         else { ch := 0xFF#8, rt := 0x02#8, co := 0, n := 0, freq := 0, br := 0 }
       if (if c.rt = 1 ∨ c.rt = 3 then 3 * c.n.toNat else 0) > s.bufLen.toNat then
         .next { s with status := { s.status with done := true, txFail := false, lenErr := true }, fc := c }
       else
         .next { s with
           status := { s.status with done := false, txFail := false, lenErr := false }, fc := c,
           frameCrc := 0xFFFFFFFF#32, seqPos := 0, txCount := 0, seqState := .frame })

/-- R248 and R249: a host transaction raises at most one of LEN_ERR, BUSY_ERR and CMD_ERR, and never TX_FAIL. -/
def Obligations.OneErrorPerTransaction : Prop :=
  ∀ (i : Instr) (s t : State), exec i s = .next t →
    (s.status.txFail = false → t.status.txFail = false) ∧
    (!s.status.lenErr && t.status.lenErr).toNat + (!s.status.busyErr && t.status.busyErr).toNat +
      (!s.status.cmdErr && t.status.cmdErr).toNat ≤ 1

/-! ### The checksum engine -/

/-- R127, R128, R129, R130: CRC_INIT, CRC_DATA, CRC_RESULT and CRC_STATE; nothing else changes. -/
def Obligations.CrcEngineInstructions : Prop :=
  ∀ (d : Word) (s : State),
    (decode (packWrite 0x34 d) = .ok (.wrCrcInit d) ∧
      exec (.wrCrcInit d) s = .next { s with crcState := 0xFFFFFFFF#32 }) ∧
    (decode (packWrite 0x38 d) = .ok (.wrCrcData d) ∧
      exec (.wrCrcData d) s = .next { s with crcState := fold s.crcState (d.setWidth 8) }) ∧
    (decode (packRead 0x3C) = .ok .rdCrcResult ∧
      exec .rdCrcResult s = .next { s with rdataLog := s.rdataLog ++ [~~~ s.crcState] }) ∧
    (decode (packRead 0x40) = .ok .rdCrcState ∧
      exec .rdCrcState s = .next { s with rdataLog := s.rdataLog ++ [s.crcState] })

/-- R121: the sixteen values of the nibble table. -/
def Obligations.NibbleTableHasTheListedValues : Prop :=
  (List.range 16).map (fun i => crcTable (BitVec.ofNat 4 i)) =
    [0x00000000#32, 0x1DB71064#32, 0x3B6E20C8#32, 0x26D930AC#32, 0x76DC4190#32, 0x6B6B51F4#32, 0x4DB26158#32,
     0x5005713C#32, 0xEDB88320#32, 0xF00F9344#32, 0xD6D6A3E8#32, 0xCB61B38C#32, 0x9B64C2B0#32, 0x86D3D2D4#32,
     0xA00AE278#32, 0xBDBDF21C#32]

/-- R4 and R126: the check value, and the checksum of the empty sequence. -/
def Obligations.CrcCheckValue : Prop :=
  crc32 [0x31#8, 0x32#8, 0x33#8, 0x34#8, 0x35#8, 0x36#8, 0x37#8, 0x38#8, 0x39#8] = 0xCBF43926#32 ∧ crc32 [] = 0#32

/-- R124: the nibble fold equals the XOR-first coding, the byte-table step and the eight bitwise steps, for every register
value and every byte. -/
def Obligations.CrcFoldFormsAgree : Prop :=
  ∀ (c : Word) (b : Byte), foldXorFirst c b = fold c b ∧ foldByteTable c b = fold c b ∧ foldBitwise c b = fold c b

/-- The residue of R179: folding any sequence and then its checksum, least significant byte first, leaves 0xDEBB20E3. -/
def Obligations.CrcResidueIsConstant : Prop :=
  ∀ s : List Byte, rawCrc crcInit (s ++ le32 (crc32 s)) = 0xDEBB20E3#32

/-- R135: WR CRC_INIT, one WR CRC_DATA per byte and RD CRC_RESULT, issued one after another from any state, return `crc32` of
the bytes and change nothing else but CRC_STATE. -/
def Obligations.CrcEngineComputesCrc32 : Prop :=
  ∀ (bytes : List Byte) (d : Word) (s : State) (rest : List Input),
    s.inputs = .host (access (packWrite 0x34 d)) ::
      (bytes.map (fun b => Input.host (access (packWrite 0x38 (b.setWidth 32)))) ++
        .host (access (packRead 0x3C)) :: rest) →
    Host.Core.run Sys2Proof.core (bytes.length + 2) s =
      .next { s with inputs := rest, crcState := ~~~ crc32 bytes, rdataLog := s.rdataLog ++ [crc32 bytes] }

/-- CRC_STATE is separate from the frame encoder (10_state.md R40, R43; 40_crc32.md section 2): only a write of CRC_INIT or
CRC_DATA and RST change it. -/
def Obligations.OnlyCrcWritesChangeCrcState : Prop :=
  ∀ s t : State, step s = .next t → t.crcState ≠ s.crcState →
    (∃ a rest d, s.inputs = .host a :: rest ∧
      (decodeAccess a = .ok (.wrCrcInit d) ∨ decodeAccess a = .ok (.wrCrcData d))) ∨
    (∃ rest, s.inputs = .reset :: rest)

/-! ### The frame the builder makes -/

/-- R100 to R105 and R143 to R148: the parts of a frame in their order, and header and descriptor byte by byte for each record
type. -/
def Obligations.HeaderAndDescriptorLayouts : Prop :=
  ∀ c : FrameContext,
    (∀ pb : Nat → Byte, frame c pb =
      header c ++ descriptor c ++ payload c pb ++ le32 (crc32 (header c ++ descriptor c ++ payload c pb))) ∧
    header c = [0x55#8, 0x50#8, 0x58#8, 0x4C#8, c.ch, c.rt] ∧
    (c.rt = 1 → descriptor c = [0x03#8, c.co, c.n.setWidth 8, (c.n >>> 8).setWidth 8]) ∧
    (c.rt = 3 → descriptor c =
      [c.freq.setWidth 8, (c.freq >>> 8).setWidth 8, (c.freq >>> 16).setWidth 8, (c.freq >>> 24).setWidth 8,
       c.co &&& 0x3F#8, c.n.setWidth 8, (c.n >>> 8).setWidth 8]) ∧
    (c.rt = 4 → descriptor c =
      [c.freq.setWidth 8, (c.freq >>> 8).setWidth 8, (c.freq >>> 16).setWidth 8, (c.freq >>> 24).setWidth 8]) ∧
    (c.rt ≠ 1 → c.rt ≠ 3 → c.rt ≠ 4 → descriptor c = [])

/-- R149, R150, R151, R152: every payload byte, for each record type: the buffer's bytes in address order, with the low five
bits of BRIGHTNESS after each APA102_DATA pixel, and no payload for the other types. -/
def Obligations.PayloadBytes : Prop :=
  ∀ (c : FrameContext) (pb : Nat → Byte),
    (c.rt = 1 → (payload c pb).length = 3 * c.n.toNat ∧ ∀ a < 3 * c.n.toNat, (payload c pb)[a]? = some (pb a)) ∧
    (c.rt = 3 → (payload c pb).length = 4 * c.n.toNat ∧ ∀ i < c.n.toNat,
      (∀ j < 3, (payload c pb)[4 * i + j]? = some (pb (3 * i + j))) ∧
      (payload c pb)[4 * i + 3]? = some (c.br &&& 0x1F#8)) ∧
    (c.rt ≠ 1 → c.rt ≠ 3 → payload c pb = [])

/-- R109: the length of every frame, and the longest. -/
def Obligations.FrameLengths : Prop :=
  ∀ (c : FrameContext) (pb : Nat → Byte),
    (frame c pb).length =
      (if c.rt = 1 then 14 + 3 * c.n.toNat else if c.rt = 3 then 17 + 4 * c.n.toNat else if c.rt = 4 then 14 else 10) ∧
    (frame c pb).length ≤ 262157

/-- R155: the payload is N_EFF elements of the type's width W, both written out, and the pixel count in the descriptor is
FC_N, little-endian, where the descriptor has one. -/
def Obligations.PayloadLengthIsCountTimesWidth : Prop :=
  ∀ (c : FrameContext) (pb : Nat → Byte),
    (payload c pb).length =
      (if c.rt = 1 ∨ c.rt = 3 then c.n.toNat else 0) * (if c.rt = 1 then 3 else if c.rt = 3 then 4 else 0) ∧
    (c.rt = 1 → ∃ lo hi : Byte, (descriptor c).drop 2 = [lo, hi] ∧ lo.toNat + 256 * hi.toNat = c.n.toNat) ∧
    (c.rt = 3 → ∃ lo hi : Byte, (descriptor c).drop 5 = [lo, hi] ∧ lo.toNat + 256 * hi.toNat = c.n.toNat)

/-- R111 and R147: the commit frame is always the same ten bytes, and so is DRAW_ALL sent on channel 0xFF. -/
def Obligations.CommitFrameBytes : Prop :=
  ∀ (c : FrameContext) (pb : Nat → Byte), c.ch = 0xFF#8 → c.rt = 0x02#8 →
    frame c pb = [0x55#8, 0x50#8, 0x58#8, 0x4C#8, 0xFF#8, 0x02#8, 0x9B#8, 0x38#8, 0x81#8, 0xDF#8]

/-- R180: the bytes of a frame depend only on FC and on the pixel-buffer bytes below NEED. -/
def Obligations.FrameDependsOnlyOnNeededBytes : Prop :=
  ∀ (c : FrameContext) (pb pb' : Nat → Byte), (∀ a < need c.rt c.n, pb' a = pb a) → frame c pb' = frame c pb

/-- R191, R192, R193: packing and unpacking a color order are inverse, pack is the shifted OR, and the presets. -/
def Obligations.ColorOrderPackUnpack : Prop :=
  (∀ v : Byte, colorPack (colorUnpack v) = v) ∧ (∀ o : ColorOrder, colorUnpack (colorPack o) = o) ∧
  (∀ o : ColorOrder, (colorPack o).toNat =
    o.white.toNat * 64 + o.blue.toNat * 16 + o.green.toNat * 4 + o.red.toNat) ∧
  colorUnpack 0x24#8 = ⟨0, 1, 2, 0⟩ ∧ colorRgb = 0x24#8 ∧ colorUnpack 0x06#8 = ⟨2, 1, 0, 0⟩ ∧ colorBgr = 0x06#8

/-! ### The sequencer and the transport -/

/-- R167 and R168: while IDLE nothing is offered; while a frame is in progress the byte on offer is the frame's byte at
SEQ_POS, checksum bytes included. -/
def Obligations.OfferedByteIsTheFrames : Prop :=
  (∀ s : State, s.seqState = .idle → offered s = none) ∧
  (∀ s : State, s.Inv → s.seqState = .frame → offered s = s.frameBytes[s.seqPos]?)

/-- R169, R170: an accepted byte before the last joins the wire, is counted, and is folded into FRAME_CRC when it is a body
byte; nothing else changes. -/
def Obligations.AcceptedByteAdvancesTheFrame : Prop :=
  ∀ (s : State) (rest : List Input) (b : Byte), s.inputs = .transport true false :: rest → offered s = some b →
    s.seqPos + 1 ≠ s.frameBody.length + 4 →
    step s = .next { s with
      inputs := rest, wire := s.wire ++ [b], txCount := s.txCount + 1, seqPos := s.seqPos + 1
      frameCrc := if s.seqPos < s.frameBody.length then fold s.frameCrc b else s.frameCrc }

/-- R169, R172: the fourth checksum byte completes the frame: LAST_CRC takes the complemented FRAME_CRC, the block returns to
IDLE and DONE is set. -/
def Obligations.LastByteCompletesTheFrame : Prop :=
  ∀ (s : State) (rest : List Input) (b : Byte), s.inputs = .transport true false :: rest → offered s = some b →
    s.seqPos + 1 = s.frameBody.length + 4 →
    step s = .next { s with
      inputs := rest, wire := s.wire ++ [b], txCount := s.txCount + 1, seqPos := s.seqPos + 1
      lastCrc := ~~~ s.frameCrc, seqState := .idle, status := { s.status with done := true } }

/-- R173: a failed byte sets TX_FAIL and DONE and ends the frame; nothing else changes. -/
def Obligations.FailedByteEndsTheFrame : Prop :=
  ∀ (s : State) (rest : List Input), s.inputs = .transport true true :: rest → s.seqState = .frame →
    step s = .next { s with
      inputs := rest, seqState := .idle, status := { s.status with done := true, txFail := true } }

/-- R174 and R45: without a handshake (TX_READY = 0, or nothing on offer) a transport input changes nothing. -/
def Obligations.NoHandshakeChangesNothing : Prop :=
  ∀ (s : State) (r e : Bool) (rest : List Input), s.inputs = .transport r e :: rest → (r = false ∨ s.seqState = .idle) →
    step s = .next { s with inputs := rest }

/-- R72: no host transaction changes the frame in progress, what has been sent of it, or what is offered next. -/
def Obligations.HostCannotDisturbTheFrame : Prop :=
  ∀ (i : Instr) (s t : State), s.seqState = .frame → exec i s = .next t →
    t.seqState = .frame ∧ t.fc = s.fc ∧ t.pixbuf = s.pixbuf ∧ t.frameCrc = s.frameCrc ∧ t.seqPos = s.seqPos ∧
    t.txCount = s.txCount ∧ t.lastCrc = s.lastCrc ∧ t.wire = s.wire ∧ t.frameBytes = s.frameBytes ∧
    offered t = offered s

/-- R63 and R178: WIRE grows only by the byte on offer, and only when the transport accepts it; no other step changes it. That
RST does not is the model's choice (notes/assumptions/7.md), which R178 allows. -/
def Obligations.WireGrowsOnlyByAcceptedBytes : Prop :=
  ∀ s t : State, step s = .next t →
    t.wire = s.wire ∨
    (∃ b rest, s.inputs = .transport true false :: rest ∧ offered s = some b ∧ t.wire = s.wire ++ [b])

/-- R162 and R177: a frame starts only from IDLE, by a SEND_CHANNEL or COMMIT. -/
def Obligations.FrameStartsOnlyByCommand : Prop :=
  ∀ s t : State, step s = .next t → s.seqState = .idle → t.seqState = .frame →
    ∃ a rest d, s.inputs = .host a :: rest ∧
      (decodeAccess a = .ok (.cmdSendChannel d) ∨ decodeAccess a = .ok (.cmdCommit d)) ∧ t.seqPos = 0 ∧ t.txCount = 0

/-- R177 and R271: a frame ends only with its last byte, on a transport failure, or at RST. -/
def Obligations.FrameEndsOnlyByTransportOrReset : Prop :=
  ∀ s t : State, step s = .next t → s.seqState = .frame → t.seqState = .idle →
    ∃ rest, (s.inputs = .transport true false :: rest ∧ s.seqPos + 1 = s.frameBody.length + 4) ∨
      s.inputs = .transport true true :: rest ∨ s.inputs = .reset :: rest

/-- R44: LAST_CRC changes only when a frame completes and at RST. -/
def Obligations.LastCrcChangesOnlyAtCompletion : Prop :=
  ∀ s t : State, step s = .next t → t.lastCrc ≠ s.lastCrc →
    (s.seqState = .frame ∧ t.seqState = .idle ∧ s.seqPos + 1 = s.frameBody.length + 4 ∧ t.lastCrc = ~~~ s.frameCrc) ∨
    (∃ rest, s.inputs = .reset :: rest ∧ t.lastCrc = 0)

/-- R72, R79, R172, R179: whatever transactions the host interleaves and however the transport stalls, once the transport has
accepted the rest of the frame and failed none of it, the wire has gained exactly the rest of the frame, LAST_CRC is the
checksum of its body, TX_COUNT its length, and the block is IDLE with DONE set and TX_FAIL and LEN_ERR clear. -/
def Obligations.FrameCompletesUnderAnyInterleaving : Prop :=
  ∀ (s : State) (l rest : List Input), s.Inv → s.seqState = .frame → (∀ e ∈ l, e.harmless) →
    l.countP Input.accepts + s.seqPos = s.frameBody.length + 3 →
    s.inputs = l ++ .transport true false :: rest →
    ∃ t : State, Host.Core.run Sys2Proof.core (l.length + 1) s = .next t ∧
      t.inputs = rest ∧ t.wire = s.wire ++ s.frameBytes.drop s.seqPos ∧ t.lastCrc = crc32 s.frameBody ∧
      t.txCount.toNat = s.frameBody.length + 4 ∧ t.seqState = .idle ∧
      t.status.done = true ∧ t.status.txFail = false ∧ t.status.lenErr = false

/-- R28 and R29: what sets BUSY_ERR and CMD_ERR, and that only a W1C write or RST clears them. -/
def Obligations.StickyErrorFlagCauses : Prop :=
  ∀ s t : State, step s = .next t →
    (s.status.busyErr = false → t.status.busyErr = true → s.seqState = .frame ∧ ∃ a rest d, s.inputs = .host a :: rest ∧
      (decodeAccess a = .ok (.cmdSendChannel d) ∨ decodeAccess a = .ok (.cmdCommit d) ∨
       decodeAccess a = .ok (.wrPbData d) ∨ decodeAccess a = .ok (.wrPbData8 d))) ∧
    (s.status.cmdErr = false → t.status.cmdErr = true → ∃ a rest i d, s.inputs = .host a :: rest ∧
      decodeAccess a = .ok i ∧ encode i = packWrite 0x04 d ∧ d.toNat % 256 ≠ 1 ∧ d.toNat % 256 ≠ 2) ∧
    (s.status.busyErr = true → t.status.busyErr = false → ∃ rest, s.inputs = .reset :: rest ∨
      ∃ a d, s.inputs = .host a :: rest ∧ decodeAccess a = .ok (.wrStatus d) ∧ d.getLsbD 4 = true) ∧
    (s.status.cmdErr = true → t.status.cmdErr = false → ∃ rest, s.inputs = .reset :: rest ∨
      ∃ a d, s.inputs = .host a :: rest ∧ decodeAccess a = .ok (.wrStatus d) ∧ d.getLsbD 5 = true)

/-- R25, R26, R27: what sets DONE (the last byte, a transport failure, or the length check), TX_FAIL (a transport failure) and
LEN_ERR (a SEND_CHANNEL that fails the length check), and that DONE is cleared only by an accepted command, a W1C write or
RST. -/
def Obligations.ResultFlagCauses : Prop :=
  ∀ s t : State, step s = .next t →
    (s.status.done = false → t.status.done = true →
      (s.seqState = .frame ∧ t.seqState = .idle) ∨ (s.seqState = .idle ∧ t.status.lenErr = true ∧
        ∃ a rest d, s.inputs = .host a :: rest ∧ decodeAccess a = .ok (.cmdSendChannel d))) ∧
    (s.status.txFail = false → t.status.txFail = true →
      s.seqState = .frame ∧ ∃ rest, s.inputs = .transport true true :: rest) ∧
    (s.status.lenErr = false → t.status.lenErr = true → s.seqState = .idle ∧
      s.bufLen.toNat < need s.rectype s.pixelCount ∧
      ∃ a rest d, s.inputs = .host a :: rest ∧ decodeAccess a = .ok (.cmdSendChannel d)) ∧
    (s.status.done = true → t.status.done = false →
      (s.seqState = .idle ∧ t.seqState = .frame) ∨ ∃ rest, s.inputs = .reset :: rest ∨
        ∃ a d, s.inputs = .host a :: rest ∧ decodeAccess a = .ok (.wrStatus d) ∧ d.getLsbD 1 = true)

/-- 20_memory.md R62, R48: the written bytes of the pixel buffer change only by a write of PB_DATA or PB_DATA8 while no frame
is in progress, and at RST; the implementation parameter never changes. -/
def Obligations.PixelBufferChangesOnlyByItsWrites : Prop :=
  ∀ s t : State, step s = .next t →
    t.config = s.config ∧
    (t.pixbuf ≠ s.pixbuf → (∃ rest, s.inputs = .reset :: rest) ∨ (s.seqState = .idle ∧ ∃ a rest d,
      s.inputs = .host a :: rest ∧ (decodeAccess a = .ok (.wrPbData d) ∨ decodeAccess a = .ok (.wrPbData8 d))))

/-! ### Reset, the host port and one step -/

/-- R270: RST is one step that gives every host-visible register and all hidden state its reset value, ID reading as ever. -/
def Obligations.ResetStepRestoresResetValues : Prop :=
  ∀ (s : State) (rest : List Input), s.inputs = .reset :: rest →
    ∃ t : State, step s = .next t ∧
      t.status = ⟨false, false, false, false, false⟩ ∧ t.channel = 0 ∧ t.rectype = 0 ∧ t.colorOrder = 0 ∧
      t.pixelCount = 0 ∧ t.frequency = 0 ∧ t.brightness = 0 ∧ t.bufLen = 0 ∧ t.pbAddr = 0 ∧
      t.crcState = 0xFFFFFFFF#32 ∧ t.lastCrc = 0 ∧ t.txCount = 0 ∧ t.seqState = .idle ∧ t.seqPos = 0 ∧
      t.fc = ⟨0, 0, 0, 0, 0, 0⟩ ∧ t.frameCrc = 0xFFFFFFFF#32 ∧
      exec .rdId t = .next { t with rdataLog := t.rdataLog ++ [0x4C585055#32] }

/-- What RST does beside the registers. R272, in the model's own form: every byte of the pixel buffer is PIXBUF_INIT, drawn anew
for each reset (notes/assumptions/4.md). R273: nothing is offered. R271: the bytes already accepted stay on the wire; that WIRE
then goes on from them, where R178 lets a model start it empty, is the model's choice (notes/assumptions/7.md), and so is that
the record of reads, the pending inputs and PIXBUF_AW are kept (notes/assumptions/6.md, 7.md). -/
def Obligations.ResetDrawsPixelBufferAnew : Prop :=
  ∀ (s : State) (rest : List Input), s.inputs = .reset :: rest →
    ∃ t : State, step s = .next t ∧ t.resets = s.resets + 1 ∧
      (∀ a < 2 ^ t.config.pixbufAw, t.pb a = Config.pixbufInit t.resets a) ∧
      offered t = none ∧ t.wire = s.wire ∧ t.rdataLog = s.rdataLog ∧ t.inputs = rest ∧ t.config = s.config

/-- R270 and 10_state.md R21, R52: the machine after power-up holds the reset values, is idle, and offers nothing. -/
def Obligations.PowerUpHoldsResetValues : Prop :=
  statusWord State.reset = 0 ∧ State.reset.channel = 0 ∧ State.reset.rectype = 0 ∧ State.reset.colorOrder = 0 ∧
  State.reset.pixelCount = 0 ∧ State.reset.frequency = 0 ∧ State.reset.brightness = 0 ∧ State.reset.bufLen = 0 ∧
  State.reset.pbAddr = 0 ∧ State.reset.crcState = 0xFFFFFFFF#32 ∧ State.reset.lastCrc = 0 ∧ State.reset.txCount = 0 ∧
  State.reset.seqState = .idle ∧ State.reset.seqPos = 0 ∧ State.reset.fc = ⟨0, 0, 0, 0, 0, 0⟩ ∧
  State.reset.frameCrc = 0xFFFFFFFF#32 ∧ offered State.reset = none

/-- A step whose next input is a host access that decodes runs the decoded instruction, which is well-formed, on the state with
that input taken (30_encoding.md R80, R82; 20_memory.md R68). -/
def Obligations.StepRunsTheDecodedInstruction : Prop :=
  ∀ (s : State) (a : HostAccess) (rest : List Input) (i : Instr), s.inputs = .host a :: rest → decodeAccess a = .ok i →
    i.wellFormed = true ∧ step s = exec i { s with inputs := rest }

/-- 20_memory.md R66, R246: the machine refuses exactly the accesses the port does not carry: of another width than 32 bits, or
with OFF[1:0] other than 00. -/
def Obligations.RefusesExactlyUncarriedAccesses : Prop :=
  ∀ s : State, (∃ r, step s = .refused r) ↔
    ∃ a rest, s.inputs = .host a :: rest ∧ (a.width ≠ 32 ∨ a.txn.toNat / 2 ^ 32 % 4 ≠ 0)

/-! ### Encodings -/

/-- Words written out from spec/95_test_vectors.md decode to the instructions they stand for. -/
def Obligations.ListedWordsDecode : Prop :=
  decode 0x13800000031#41 = .ok (.wrCrcData 0x31) ∧ decode 0x03C00000000#41 = .ok .rdCrcResult ∧
  decode 0x10400000001#41 = .ok (.cmdSendChannel 1) ∧ decode 0x10400000002#41 = .ok (.cmdCommit 2) ∧
  decode 0x10400000007#41 = .ok (.cmdReserved0407 7) ∧ decode 0x12CDDCCBBAA#41 = .ok (.wrPbData 0xDDCCBBAA) ∧
  decode 0x1080000003E#41 = .ok (.wrStatus 0x3E) ∧ decode 0x00000000000#41 = .ok .rdId ∧
  decode 0x04800000000#41 = .ok .rdTxCount ∧ decode 0x00100000000#41 = .error (.misaligned 1)

/-- Decoding the encoding of a well-formed instruction gives the instruction. -/
def Obligations.DecodeOfEncode : Prop := ∀ i : Instr, i.wellFormed = true → decode (encode i) = .ok i

/-- Every aligned word is the encoding of the instruction it decodes to, its DATA being 0 if it is a read (R80). -/
def Obligations.EncodeOfDecode : Prop :=
  ∀ (t : TxnWord) (i : Instr), decode t = .ok i → (t.getLsbD 40 = true ∨ t.toNat % 2 ^ 32 = 0) → encode i = t

/-- R82: the decode is total on aligned words, and it names the one row of the opcode table that covers the word. -/
def Obligations.DecodeNamesTheOneRow : Prop :=
  ∀ t : TxnWord, t.toNat / 2 ^ 32 % 4 = 0 → ∃ i : Instr, decode t = .ok i ∧ i.wellFormed = true ∧
    (opcodeTable.filter (fun r => r.covers t)).map OpcodeRow.mnemonic = [i.mnemonic]

/-! ### Invariants -/

/-- Every step keeps the invariant: the pixel buffer stays canonical and inside its bounds, BUF_LEN and PB_ADDR stay legal, and
the bookkeeping of a frame in progress stays right. -/
def Obligations.StepKeepsInvariant : Prop := ∀ s t : State, s.Inv → step s = .next t → t.Inv

/-- The invariant holds after reset. -/
def Obligations.InvariantAtReset : Prop := State.reset.Inv

/-- R177: WIRE stays a concatenation of frames and of frames cut short, never interleaved. -/
def Obligations.StepKeepsWireFramed : Prop :=
  (∀ s t : State, s.Inv → s.WireFramed → step s = .next t → t.WireFramed) ∧ State.reset.WireFramed
end

