-- ==== Sys2Proof/Laws/Encoding.lean ====
section
/-! SUPPORT. The fields of a packed transaction, and when a row of the opcode table covers one. -/

namespace Sys2Proof

@[simp] theorem txnOff_txnWord (w : Bool) (o : Byte) (d : Word) : txnOff (txnWord w o d) = o := by
  unfold txnOff txnWord
  rw [BitVec.extractLsb'_append_eq_of_le (Nat.le_refl 32), BitVec.extractLsb'_append_eq_right]

@[simp] theorem txnData_txnWord (w : Bool) (o : Byte) (d : Word) : txnData (txnWord w o d) = d := by
  unfold txnData txnWord
  exact BitVec.extractLsb'_append_eq_right

@[simp] theorem txnIsWrite_txnWord (w : Bool) (o : Byte) (d : Word) : txnIsWrite (txnWord w o d) = w := by
  have h : (BitVec.ofBool w ++ o ++ d).getLsbD 40 = w := by
    rw [BitVec.getLsbD_append, if_neg (by decide), BitVec.getLsbD_append, if_neg (by decide)]
    cases w <;> rfl
  exact h

/-- Masking a transaction masks its fields. -/
theorem txnWord_and (w w' : Bool) (o o' : Byte) (d d' : Word) :
    txnWord w o d &&& txnWord w' o' d' = txnWord (w && w') (o &&& o') (d &&& d') :=
  calc txnWord w o d &&& txnWord w' o' d'
      = (BitVec.ofBool w ++ o &&& BitVec.ofBool w' ++ o') ++ (d &&& d') := BitVec.and_append
    _ = txnWord (w && w') (o &&& o') (d &&& d') := by rw [BitVec.and_append, BitVec.ofBool_and_ofBool]; rfl

/-- A row whose match and mask are given by fields covers a transaction whose masked fields are the match's. -/
theorem OpcodeRow.covers_fields {m : String} {w wm w0 : Bool} {o om o0 : Byte} {d dm d0 : Word}
    (hw : (w0 && wm) = w) (ho : o0 &&& om = o) (hd : d0 &&& dm = d) :
    (OpcodeRow.mk m (txnWord w o d) (txnWord wm om dm)).covers (txnWord w0 o0 d0) = true := by
  simp [OpcodeRow.covers, txnWord_and, hw, ho, hd]

/-- A CMD write whose OPCODE is in range has the range's opcode bits in its DATA. -/
theorem opcodeIn_pattern {lo hi : Nat} {d : Word} (m p : Byte) (h : opcodeIn lo hi d = true)
    (hp : ∀ b : Byte, lo ≤ b.toNat → b.toNat ≤ hi → b &&& m = p) : d &&& m.setWidth 32 = p.setWidth 32 := by
  simp only [opcodeIn, Bool.and_eq_true, decide_eq_true_eq] at h
  obtain rfl := hp _ h.1 h.2
  clear hp h
  apply BitVec.eq_of_getLsbD_eq
  intro i hi
  cases h8 : decide (i < 8) <;> simp_all [opcodeOf]

end Sys2Proof
end

