-- ==== Sys2Proof/Laws/State.lean ====
section
/-! SUPPORT. One lemma per field per named update of State, each true by rfl, so that no later proof unfolds an update. -/

namespace Sys2Proof.Machine

/-! ### `respond` -/

@[simp] theorem State.respond_status (s : State) (v : Word) : (s.respond v).status = s.status := rfl
@[simp] theorem State.respond_channel (s : State) (v : Word) : (s.respond v).channel = s.channel := rfl
@[simp] theorem State.respond_rectype (s : State) (v : Word) : (s.respond v).rectype = s.rectype := rfl
@[simp] theorem State.respond_colorOrder (s : State) (v : Word) : (s.respond v).colorOrder = s.colorOrder := rfl
@[simp] theorem State.respond_pixelCount (s : State) (v : Word) : (s.respond v).pixelCount = s.pixelCount := rfl
@[simp] theorem State.respond_frequency (s : State) (v : Word) : (s.respond v).frequency = s.frequency := rfl
@[simp] theorem State.respond_brightness (s : State) (v : Word) : (s.respond v).brightness = s.brightness := rfl
@[simp] theorem State.respond_bufLen (s : State) (v : Word) : (s.respond v).bufLen = s.bufLen := rfl
@[simp] theorem State.respond_pbAddr (s : State) (v : Word) : (s.respond v).pbAddr = s.pbAddr := rfl
@[simp] theorem State.respond_crcState (s : State) (v : Word) : (s.respond v).crcState = s.crcState := rfl
@[simp] theorem State.respond_lastCrc (s : State) (v : Word) : (s.respond v).lastCrc = s.lastCrc := rfl
@[simp] theorem State.respond_txCount (s : State) (v : Word) : (s.respond v).txCount = s.txCount := rfl
@[simp] theorem State.respond_seqState (s : State) (v : Word) : (s.respond v).seqState = s.seqState := rfl
@[simp] theorem State.respond_seqPos (s : State) (v : Word) : (s.respond v).seqPos = s.seqPos := rfl
@[simp] theorem State.respond_fc (s : State) (v : Word) : (s.respond v).fc = s.fc := rfl
@[simp] theorem State.respond_frameCrc (s : State) (v : Word) : (s.respond v).frameCrc = s.frameCrc := rfl
@[simp] theorem State.respond_pixbuf (s : State) (v : Word) : (s.respond v).pixbuf = s.pixbuf := rfl
@[simp] theorem State.respond_wire (s : State) (v : Word) : (s.respond v).wire = s.wire := rfl
@[simp] theorem State.respond_rdataLog (s : State) (v : Word) : (s.respond v).rdataLog = s.rdataLog ++ [v] := rfl
@[simp] theorem State.respond_resets (s : State) (v : Word) : (s.respond v).resets = s.resets := rfl
@[simp] theorem State.respond_inputs (s : State) (v : Word) : (s.respond v).inputs = s.inputs := rfl
@[simp] theorem State.respond_config (s : State) (v : Word) : (s.respond v).config = s.config := rfl

/-! ### `setInputs` -/

@[simp] theorem State.setInputs_status (s : State) (l : List Input) : (s.setInputs l).status = s.status := rfl
@[simp] theorem State.setInputs_channel (s : State) (l : List Input) : (s.setInputs l).channel = s.channel := rfl
@[simp] theorem State.setInputs_rectype (s : State) (l : List Input) : (s.setInputs l).rectype = s.rectype := rfl
@[simp] theorem State.setInputs_colorOrder (s : State) (l : List Input) : (s.setInputs l).colorOrder = s.colorOrder := rfl
@[simp] theorem State.setInputs_pixelCount (s : State) (l : List Input) : (s.setInputs l).pixelCount = s.pixelCount := rfl
@[simp] theorem State.setInputs_frequency (s : State) (l : List Input) : (s.setInputs l).frequency = s.frequency := rfl
@[simp] theorem State.setInputs_brightness (s : State) (l : List Input) : (s.setInputs l).brightness = s.brightness := rfl
@[simp] theorem State.setInputs_bufLen (s : State) (l : List Input) : (s.setInputs l).bufLen = s.bufLen := rfl
@[simp] theorem State.setInputs_pbAddr (s : State) (l : List Input) : (s.setInputs l).pbAddr = s.pbAddr := rfl
@[simp] theorem State.setInputs_crcState (s : State) (l : List Input) : (s.setInputs l).crcState = s.crcState := rfl
@[simp] theorem State.setInputs_lastCrc (s : State) (l : List Input) : (s.setInputs l).lastCrc = s.lastCrc := rfl
@[simp] theorem State.setInputs_txCount (s : State) (l : List Input) : (s.setInputs l).txCount = s.txCount := rfl
@[simp] theorem State.setInputs_seqState (s : State) (l : List Input) : (s.setInputs l).seqState = s.seqState := rfl
@[simp] theorem State.setInputs_seqPos (s : State) (l : List Input) : (s.setInputs l).seqPos = s.seqPos := rfl
@[simp] theorem State.setInputs_fc (s : State) (l : List Input) : (s.setInputs l).fc = s.fc := rfl
@[simp] theorem State.setInputs_frameCrc (s : State) (l : List Input) : (s.setInputs l).frameCrc = s.frameCrc := rfl
@[simp] theorem State.setInputs_pixbuf (s : State) (l : List Input) : (s.setInputs l).pixbuf = s.pixbuf := rfl
@[simp] theorem State.setInputs_wire (s : State) (l : List Input) : (s.setInputs l).wire = s.wire := rfl
@[simp] theorem State.setInputs_rdataLog (s : State) (l : List Input) : (s.setInputs l).rdataLog = s.rdataLog := rfl
@[simp] theorem State.setInputs_resets (s : State) (l : List Input) : (s.setInputs l).resets = s.resets := rfl
@[simp] theorem State.setInputs_inputs (s : State) (l : List Input) : (s.setInputs l).inputs = l := rfl
@[simp] theorem State.setInputs_config (s : State) (l : List Input) : (s.setInputs l).config = s.config := rfl

/-! ### `setChannel` -/

@[simp] theorem State.setChannel_status (s : State) (v : Byte) : (s.setChannel v).status = s.status := rfl
@[simp] theorem State.setChannel_channel (s : State) (v : Byte) : (s.setChannel v).channel = v := rfl
@[simp] theorem State.setChannel_rectype (s : State) (v : Byte) : (s.setChannel v).rectype = s.rectype := rfl
@[simp] theorem State.setChannel_colorOrder (s : State) (v : Byte) : (s.setChannel v).colorOrder = s.colorOrder := rfl
@[simp] theorem State.setChannel_pixelCount (s : State) (v : Byte) : (s.setChannel v).pixelCount = s.pixelCount := rfl
@[simp] theorem State.setChannel_frequency (s : State) (v : Byte) : (s.setChannel v).frequency = s.frequency := rfl
@[simp] theorem State.setChannel_brightness (s : State) (v : Byte) : (s.setChannel v).brightness = s.brightness := rfl
@[simp] theorem State.setChannel_bufLen (s : State) (v : Byte) : (s.setChannel v).bufLen = s.bufLen := rfl
@[simp] theorem State.setChannel_pbAddr (s : State) (v : Byte) : (s.setChannel v).pbAddr = s.pbAddr := rfl
@[simp] theorem State.setChannel_crcState (s : State) (v : Byte) : (s.setChannel v).crcState = s.crcState := rfl
@[simp] theorem State.setChannel_lastCrc (s : State) (v : Byte) : (s.setChannel v).lastCrc = s.lastCrc := rfl
@[simp] theorem State.setChannel_txCount (s : State) (v : Byte) : (s.setChannel v).txCount = s.txCount := rfl
@[simp] theorem State.setChannel_seqState (s : State) (v : Byte) : (s.setChannel v).seqState = s.seqState := rfl
@[simp] theorem State.setChannel_seqPos (s : State) (v : Byte) : (s.setChannel v).seqPos = s.seqPos := rfl
@[simp] theorem State.setChannel_fc (s : State) (v : Byte) : (s.setChannel v).fc = s.fc := rfl
@[simp] theorem State.setChannel_frameCrc (s : State) (v : Byte) : (s.setChannel v).frameCrc = s.frameCrc := rfl
@[simp] theorem State.setChannel_pixbuf (s : State) (v : Byte) : (s.setChannel v).pixbuf = s.pixbuf := rfl
@[simp] theorem State.setChannel_wire (s : State) (v : Byte) : (s.setChannel v).wire = s.wire := rfl
@[simp] theorem State.setChannel_rdataLog (s : State) (v : Byte) : (s.setChannel v).rdataLog = s.rdataLog := rfl
@[simp] theorem State.setChannel_resets (s : State) (v : Byte) : (s.setChannel v).resets = s.resets := rfl
@[simp] theorem State.setChannel_inputs (s : State) (v : Byte) : (s.setChannel v).inputs = s.inputs := rfl
@[simp] theorem State.setChannel_config (s : State) (v : Byte) : (s.setChannel v).config = s.config := rfl

/-! ### `setRectype` -/

@[simp] theorem State.setRectype_status (s : State) (v : Byte) : (s.setRectype v).status = s.status := rfl
@[simp] theorem State.setRectype_channel (s : State) (v : Byte) : (s.setRectype v).channel = s.channel := rfl
@[simp] theorem State.setRectype_rectype (s : State) (v : Byte) : (s.setRectype v).rectype = v := rfl
@[simp] theorem State.setRectype_colorOrder (s : State) (v : Byte) : (s.setRectype v).colorOrder = s.colorOrder := rfl
@[simp] theorem State.setRectype_pixelCount (s : State) (v : Byte) : (s.setRectype v).pixelCount = s.pixelCount := rfl
@[simp] theorem State.setRectype_frequency (s : State) (v : Byte) : (s.setRectype v).frequency = s.frequency := rfl
@[simp] theorem State.setRectype_brightness (s : State) (v : Byte) : (s.setRectype v).brightness = s.brightness := rfl
@[simp] theorem State.setRectype_bufLen (s : State) (v : Byte) : (s.setRectype v).bufLen = s.bufLen := rfl
@[simp] theorem State.setRectype_pbAddr (s : State) (v : Byte) : (s.setRectype v).pbAddr = s.pbAddr := rfl
@[simp] theorem State.setRectype_crcState (s : State) (v : Byte) : (s.setRectype v).crcState = s.crcState := rfl
@[simp] theorem State.setRectype_lastCrc (s : State) (v : Byte) : (s.setRectype v).lastCrc = s.lastCrc := rfl
@[simp] theorem State.setRectype_txCount (s : State) (v : Byte) : (s.setRectype v).txCount = s.txCount := rfl
@[simp] theorem State.setRectype_seqState (s : State) (v : Byte) : (s.setRectype v).seqState = s.seqState := rfl
@[simp] theorem State.setRectype_seqPos (s : State) (v : Byte) : (s.setRectype v).seqPos = s.seqPos := rfl
@[simp] theorem State.setRectype_fc (s : State) (v : Byte) : (s.setRectype v).fc = s.fc := rfl
@[simp] theorem State.setRectype_frameCrc (s : State) (v : Byte) : (s.setRectype v).frameCrc = s.frameCrc := rfl
@[simp] theorem State.setRectype_pixbuf (s : State) (v : Byte) : (s.setRectype v).pixbuf = s.pixbuf := rfl
@[simp] theorem State.setRectype_wire (s : State) (v : Byte) : (s.setRectype v).wire = s.wire := rfl
@[simp] theorem State.setRectype_rdataLog (s : State) (v : Byte) : (s.setRectype v).rdataLog = s.rdataLog := rfl
@[simp] theorem State.setRectype_resets (s : State) (v : Byte) : (s.setRectype v).resets = s.resets := rfl
@[simp] theorem State.setRectype_inputs (s : State) (v : Byte) : (s.setRectype v).inputs = s.inputs := rfl
@[simp] theorem State.setRectype_config (s : State) (v : Byte) : (s.setRectype v).config = s.config := rfl

/-! ### `setColorOrder` -/

@[simp] theorem State.setColorOrder_status (s : State) (v : Byte) : (s.setColorOrder v).status = s.status := rfl
@[simp] theorem State.setColorOrder_channel (s : State) (v : Byte) : (s.setColorOrder v).channel = s.channel := rfl
@[simp] theorem State.setColorOrder_rectype (s : State) (v : Byte) : (s.setColorOrder v).rectype = s.rectype := rfl
@[simp] theorem State.setColorOrder_colorOrder (s : State) (v : Byte) : (s.setColorOrder v).colorOrder = v := rfl
@[simp] theorem State.setColorOrder_pixelCount (s : State) (v : Byte) : (s.setColorOrder v).pixelCount = s.pixelCount := rfl
@[simp] theorem State.setColorOrder_frequency (s : State) (v : Byte) : (s.setColorOrder v).frequency = s.frequency := rfl
@[simp] theorem State.setColorOrder_brightness (s : State) (v : Byte) : (s.setColorOrder v).brightness = s.brightness := rfl
@[simp] theorem State.setColorOrder_bufLen (s : State) (v : Byte) : (s.setColorOrder v).bufLen = s.bufLen := rfl
@[simp] theorem State.setColorOrder_pbAddr (s : State) (v : Byte) : (s.setColorOrder v).pbAddr = s.pbAddr := rfl
@[simp] theorem State.setColorOrder_crcState (s : State) (v : Byte) : (s.setColorOrder v).crcState = s.crcState := rfl
@[simp] theorem State.setColorOrder_lastCrc (s : State) (v : Byte) : (s.setColorOrder v).lastCrc = s.lastCrc := rfl
@[simp] theorem State.setColorOrder_txCount (s : State) (v : Byte) : (s.setColorOrder v).txCount = s.txCount := rfl
@[simp] theorem State.setColorOrder_seqState (s : State) (v : Byte) : (s.setColorOrder v).seqState = s.seqState := rfl
@[simp] theorem State.setColorOrder_seqPos (s : State) (v : Byte) : (s.setColorOrder v).seqPos = s.seqPos := rfl
@[simp] theorem State.setColorOrder_fc (s : State) (v : Byte) : (s.setColorOrder v).fc = s.fc := rfl
@[simp] theorem State.setColorOrder_frameCrc (s : State) (v : Byte) : (s.setColorOrder v).frameCrc = s.frameCrc := rfl
@[simp] theorem State.setColorOrder_pixbuf (s : State) (v : Byte) : (s.setColorOrder v).pixbuf = s.pixbuf := rfl
@[simp] theorem State.setColorOrder_wire (s : State) (v : Byte) : (s.setColorOrder v).wire = s.wire := rfl
@[simp] theorem State.setColorOrder_rdataLog (s : State) (v : Byte) : (s.setColorOrder v).rdataLog = s.rdataLog := rfl
@[simp] theorem State.setColorOrder_resets (s : State) (v : Byte) : (s.setColorOrder v).resets = s.resets := rfl
@[simp] theorem State.setColorOrder_inputs (s : State) (v : Byte) : (s.setColorOrder v).inputs = s.inputs := rfl
@[simp] theorem State.setColorOrder_config (s : State) (v : Byte) : (s.setColorOrder v).config = s.config := rfl

/-! ### `setPixelCount` -/

@[simp] theorem State.setPixelCount_status (s : State) (v : Half) : (s.setPixelCount v).status = s.status := rfl
@[simp] theorem State.setPixelCount_channel (s : State) (v : Half) : (s.setPixelCount v).channel = s.channel := rfl
@[simp] theorem State.setPixelCount_rectype (s : State) (v : Half) : (s.setPixelCount v).rectype = s.rectype := rfl
@[simp] theorem State.setPixelCount_colorOrder (s : State) (v : Half) : (s.setPixelCount v).colorOrder = s.colorOrder := rfl
@[simp] theorem State.setPixelCount_pixelCount (s : State) (v : Half) : (s.setPixelCount v).pixelCount = v := rfl
@[simp] theorem State.setPixelCount_frequency (s : State) (v : Half) : (s.setPixelCount v).frequency = s.frequency := rfl
@[simp] theorem State.setPixelCount_brightness (s : State) (v : Half) : (s.setPixelCount v).brightness = s.brightness := rfl
@[simp] theorem State.setPixelCount_bufLen (s : State) (v : Half) : (s.setPixelCount v).bufLen = s.bufLen := rfl
@[simp] theorem State.setPixelCount_pbAddr (s : State) (v : Half) : (s.setPixelCount v).pbAddr = s.pbAddr := rfl
@[simp] theorem State.setPixelCount_crcState (s : State) (v : Half) : (s.setPixelCount v).crcState = s.crcState := rfl
@[simp] theorem State.setPixelCount_lastCrc (s : State) (v : Half) : (s.setPixelCount v).lastCrc = s.lastCrc := rfl
@[simp] theorem State.setPixelCount_txCount (s : State) (v : Half) : (s.setPixelCount v).txCount = s.txCount := rfl
@[simp] theorem State.setPixelCount_seqState (s : State) (v : Half) : (s.setPixelCount v).seqState = s.seqState := rfl
@[simp] theorem State.setPixelCount_seqPos (s : State) (v : Half) : (s.setPixelCount v).seqPos = s.seqPos := rfl
@[simp] theorem State.setPixelCount_fc (s : State) (v : Half) : (s.setPixelCount v).fc = s.fc := rfl
@[simp] theorem State.setPixelCount_frameCrc (s : State) (v : Half) : (s.setPixelCount v).frameCrc = s.frameCrc := rfl
@[simp] theorem State.setPixelCount_pixbuf (s : State) (v : Half) : (s.setPixelCount v).pixbuf = s.pixbuf := rfl
@[simp] theorem State.setPixelCount_wire (s : State) (v : Half) : (s.setPixelCount v).wire = s.wire := rfl
@[simp] theorem State.setPixelCount_rdataLog (s : State) (v : Half) : (s.setPixelCount v).rdataLog = s.rdataLog := rfl
@[simp] theorem State.setPixelCount_resets (s : State) (v : Half) : (s.setPixelCount v).resets = s.resets := rfl
@[simp] theorem State.setPixelCount_inputs (s : State) (v : Half) : (s.setPixelCount v).inputs = s.inputs := rfl
@[simp] theorem State.setPixelCount_config (s : State) (v : Half) : (s.setPixelCount v).config = s.config := rfl

/-! ### `setFrequency` -/

@[simp] theorem State.setFrequency_status (s : State) (v : Word) : (s.setFrequency v).status = s.status := rfl
@[simp] theorem State.setFrequency_channel (s : State) (v : Word) : (s.setFrequency v).channel = s.channel := rfl
@[simp] theorem State.setFrequency_rectype (s : State) (v : Word) : (s.setFrequency v).rectype = s.rectype := rfl
@[simp] theorem State.setFrequency_colorOrder (s : State) (v : Word) : (s.setFrequency v).colorOrder = s.colorOrder := rfl
@[simp] theorem State.setFrequency_pixelCount (s : State) (v : Word) : (s.setFrequency v).pixelCount = s.pixelCount := rfl
@[simp] theorem State.setFrequency_frequency (s : State) (v : Word) : (s.setFrequency v).frequency = v := rfl
@[simp] theorem State.setFrequency_brightness (s : State) (v : Word) : (s.setFrequency v).brightness = s.brightness := rfl
@[simp] theorem State.setFrequency_bufLen (s : State) (v : Word) : (s.setFrequency v).bufLen = s.bufLen := rfl
@[simp] theorem State.setFrequency_pbAddr (s : State) (v : Word) : (s.setFrequency v).pbAddr = s.pbAddr := rfl
@[simp] theorem State.setFrequency_crcState (s : State) (v : Word) : (s.setFrequency v).crcState = s.crcState := rfl
@[simp] theorem State.setFrequency_lastCrc (s : State) (v : Word) : (s.setFrequency v).lastCrc = s.lastCrc := rfl
@[simp] theorem State.setFrequency_txCount (s : State) (v : Word) : (s.setFrequency v).txCount = s.txCount := rfl
@[simp] theorem State.setFrequency_seqState (s : State) (v : Word) : (s.setFrequency v).seqState = s.seqState := rfl
@[simp] theorem State.setFrequency_seqPos (s : State) (v : Word) : (s.setFrequency v).seqPos = s.seqPos := rfl
@[simp] theorem State.setFrequency_fc (s : State) (v : Word) : (s.setFrequency v).fc = s.fc := rfl
@[simp] theorem State.setFrequency_frameCrc (s : State) (v : Word) : (s.setFrequency v).frameCrc = s.frameCrc := rfl
@[simp] theorem State.setFrequency_pixbuf (s : State) (v : Word) : (s.setFrequency v).pixbuf = s.pixbuf := rfl
@[simp] theorem State.setFrequency_wire (s : State) (v : Word) : (s.setFrequency v).wire = s.wire := rfl
@[simp] theorem State.setFrequency_rdataLog (s : State) (v : Word) : (s.setFrequency v).rdataLog = s.rdataLog := rfl
@[simp] theorem State.setFrequency_resets (s : State) (v : Word) : (s.setFrequency v).resets = s.resets := rfl
@[simp] theorem State.setFrequency_inputs (s : State) (v : Word) : (s.setFrequency v).inputs = s.inputs := rfl
@[simp] theorem State.setFrequency_config (s : State) (v : Word) : (s.setFrequency v).config = s.config := rfl

/-! ### `setBrightness` -/

@[simp] theorem State.setBrightness_status (s : State) (v : Byte) : (s.setBrightness v).status = s.status := rfl
@[simp] theorem State.setBrightness_channel (s : State) (v : Byte) : (s.setBrightness v).channel = s.channel := rfl
@[simp] theorem State.setBrightness_rectype (s : State) (v : Byte) : (s.setBrightness v).rectype = s.rectype := rfl
@[simp] theorem State.setBrightness_colorOrder (s : State) (v : Byte) : (s.setBrightness v).colorOrder = s.colorOrder := rfl
@[simp] theorem State.setBrightness_pixelCount (s : State) (v : Byte) : (s.setBrightness v).pixelCount = s.pixelCount := rfl
@[simp] theorem State.setBrightness_frequency (s : State) (v : Byte) : (s.setBrightness v).frequency = s.frequency := rfl
@[simp] theorem State.setBrightness_brightness (s : State) (v : Byte) : (s.setBrightness v).brightness = v := rfl
@[simp] theorem State.setBrightness_bufLen (s : State) (v : Byte) : (s.setBrightness v).bufLen = s.bufLen := rfl
@[simp] theorem State.setBrightness_pbAddr (s : State) (v : Byte) : (s.setBrightness v).pbAddr = s.pbAddr := rfl
@[simp] theorem State.setBrightness_crcState (s : State) (v : Byte) : (s.setBrightness v).crcState = s.crcState := rfl
@[simp] theorem State.setBrightness_lastCrc (s : State) (v : Byte) : (s.setBrightness v).lastCrc = s.lastCrc := rfl
@[simp] theorem State.setBrightness_txCount (s : State) (v : Byte) : (s.setBrightness v).txCount = s.txCount := rfl
@[simp] theorem State.setBrightness_seqState (s : State) (v : Byte) : (s.setBrightness v).seqState = s.seqState := rfl
@[simp] theorem State.setBrightness_seqPos (s : State) (v : Byte) : (s.setBrightness v).seqPos = s.seqPos := rfl
@[simp] theorem State.setBrightness_fc (s : State) (v : Byte) : (s.setBrightness v).fc = s.fc := rfl
@[simp] theorem State.setBrightness_frameCrc (s : State) (v : Byte) : (s.setBrightness v).frameCrc = s.frameCrc := rfl
@[simp] theorem State.setBrightness_pixbuf (s : State) (v : Byte) : (s.setBrightness v).pixbuf = s.pixbuf := rfl
@[simp] theorem State.setBrightness_wire (s : State) (v : Byte) : (s.setBrightness v).wire = s.wire := rfl
@[simp] theorem State.setBrightness_rdataLog (s : State) (v : Byte) : (s.setBrightness v).rdataLog = s.rdataLog := rfl
@[simp] theorem State.setBrightness_resets (s : State) (v : Byte) : (s.setBrightness v).resets = s.resets := rfl
@[simp] theorem State.setBrightness_inputs (s : State) (v : Byte) : (s.setBrightness v).inputs = s.inputs := rfl
@[simp] theorem State.setBrightness_config (s : State) (v : Byte) : (s.setBrightness v).config = s.config := rfl

/-! ### `setBufLen` -/

@[simp] theorem State.setBufLen_status (s : State) (v : Word) : (s.setBufLen v).status = s.status := rfl
@[simp] theorem State.setBufLen_channel (s : State) (v : Word) : (s.setBufLen v).channel = s.channel := rfl
@[simp] theorem State.setBufLen_rectype (s : State) (v : Word) : (s.setBufLen v).rectype = s.rectype := rfl
@[simp] theorem State.setBufLen_colorOrder (s : State) (v : Word) : (s.setBufLen v).colorOrder = s.colorOrder := rfl
@[simp] theorem State.setBufLen_pixelCount (s : State) (v : Word) : (s.setBufLen v).pixelCount = s.pixelCount := rfl
@[simp] theorem State.setBufLen_frequency (s : State) (v : Word) : (s.setBufLen v).frequency = s.frequency := rfl
@[simp] theorem State.setBufLen_brightness (s : State) (v : Word) : (s.setBufLen v).brightness = s.brightness := rfl
@[simp] theorem State.setBufLen_bufLen (s : State) (v : Word) : (s.setBufLen v).bufLen = v := rfl
@[simp] theorem State.setBufLen_pbAddr (s : State) (v : Word) : (s.setBufLen v).pbAddr = s.pbAddr := rfl
@[simp] theorem State.setBufLen_crcState (s : State) (v : Word) : (s.setBufLen v).crcState = s.crcState := rfl
@[simp] theorem State.setBufLen_lastCrc (s : State) (v : Word) : (s.setBufLen v).lastCrc = s.lastCrc := rfl
@[simp] theorem State.setBufLen_txCount (s : State) (v : Word) : (s.setBufLen v).txCount = s.txCount := rfl
@[simp] theorem State.setBufLen_seqState (s : State) (v : Word) : (s.setBufLen v).seqState = s.seqState := rfl
@[simp] theorem State.setBufLen_seqPos (s : State) (v : Word) : (s.setBufLen v).seqPos = s.seqPos := rfl
@[simp] theorem State.setBufLen_fc (s : State) (v : Word) : (s.setBufLen v).fc = s.fc := rfl
@[simp] theorem State.setBufLen_frameCrc (s : State) (v : Word) : (s.setBufLen v).frameCrc = s.frameCrc := rfl
@[simp] theorem State.setBufLen_pixbuf (s : State) (v : Word) : (s.setBufLen v).pixbuf = s.pixbuf := rfl
@[simp] theorem State.setBufLen_wire (s : State) (v : Word) : (s.setBufLen v).wire = s.wire := rfl
@[simp] theorem State.setBufLen_rdataLog (s : State) (v : Word) : (s.setBufLen v).rdataLog = s.rdataLog := rfl
@[simp] theorem State.setBufLen_resets (s : State) (v : Word) : (s.setBufLen v).resets = s.resets := rfl
@[simp] theorem State.setBufLen_inputs (s : State) (v : Word) : (s.setBufLen v).inputs = s.inputs := rfl
@[simp] theorem State.setBufLen_config (s : State) (v : Word) : (s.setBufLen v).config = s.config := rfl

/-! ### `setPbAddr` -/

@[simp] theorem State.setPbAddr_status (s : State) (v : Word) : (s.setPbAddr v).status = s.status := rfl
@[simp] theorem State.setPbAddr_channel (s : State) (v : Word) : (s.setPbAddr v).channel = s.channel := rfl
@[simp] theorem State.setPbAddr_rectype (s : State) (v : Word) : (s.setPbAddr v).rectype = s.rectype := rfl
@[simp] theorem State.setPbAddr_colorOrder (s : State) (v : Word) : (s.setPbAddr v).colorOrder = s.colorOrder := rfl
@[simp] theorem State.setPbAddr_pixelCount (s : State) (v : Word) : (s.setPbAddr v).pixelCount = s.pixelCount := rfl
@[simp] theorem State.setPbAddr_frequency (s : State) (v : Word) : (s.setPbAddr v).frequency = s.frequency := rfl
@[simp] theorem State.setPbAddr_brightness (s : State) (v : Word) : (s.setPbAddr v).brightness = s.brightness := rfl
@[simp] theorem State.setPbAddr_bufLen (s : State) (v : Word) : (s.setPbAddr v).bufLen = s.bufLen := rfl
@[simp] theorem State.setPbAddr_pbAddr (s : State) (v : Word) : (s.setPbAddr v).pbAddr = v := rfl
@[simp] theorem State.setPbAddr_crcState (s : State) (v : Word) : (s.setPbAddr v).crcState = s.crcState := rfl
@[simp] theorem State.setPbAddr_lastCrc (s : State) (v : Word) : (s.setPbAddr v).lastCrc = s.lastCrc := rfl
@[simp] theorem State.setPbAddr_txCount (s : State) (v : Word) : (s.setPbAddr v).txCount = s.txCount := rfl
@[simp] theorem State.setPbAddr_seqState (s : State) (v : Word) : (s.setPbAddr v).seqState = s.seqState := rfl
@[simp] theorem State.setPbAddr_seqPos (s : State) (v : Word) : (s.setPbAddr v).seqPos = s.seqPos := rfl
@[simp] theorem State.setPbAddr_fc (s : State) (v : Word) : (s.setPbAddr v).fc = s.fc := rfl
@[simp] theorem State.setPbAddr_frameCrc (s : State) (v : Word) : (s.setPbAddr v).frameCrc = s.frameCrc := rfl
@[simp] theorem State.setPbAddr_pixbuf (s : State) (v : Word) : (s.setPbAddr v).pixbuf = s.pixbuf := rfl
@[simp] theorem State.setPbAddr_wire (s : State) (v : Word) : (s.setPbAddr v).wire = s.wire := rfl
@[simp] theorem State.setPbAddr_rdataLog (s : State) (v : Word) : (s.setPbAddr v).rdataLog = s.rdataLog := rfl
@[simp] theorem State.setPbAddr_resets (s : State) (v : Word) : (s.setPbAddr v).resets = s.resets := rfl
@[simp] theorem State.setPbAddr_inputs (s : State) (v : Word) : (s.setPbAddr v).inputs = s.inputs := rfl
@[simp] theorem State.setPbAddr_config (s : State) (v : Word) : (s.setPbAddr v).config = s.config := rfl

/-! ### `setCrcState` -/

@[simp] theorem State.setCrcState_status (s : State) (v : Word) : (s.setCrcState v).status = s.status := rfl
@[simp] theorem State.setCrcState_channel (s : State) (v : Word) : (s.setCrcState v).channel = s.channel := rfl
@[simp] theorem State.setCrcState_rectype (s : State) (v : Word) : (s.setCrcState v).rectype = s.rectype := rfl
@[simp] theorem State.setCrcState_colorOrder (s : State) (v : Word) : (s.setCrcState v).colorOrder = s.colorOrder := rfl
@[simp] theorem State.setCrcState_pixelCount (s : State) (v : Word) : (s.setCrcState v).pixelCount = s.pixelCount := rfl
@[simp] theorem State.setCrcState_frequency (s : State) (v : Word) : (s.setCrcState v).frequency = s.frequency := rfl
@[simp] theorem State.setCrcState_brightness (s : State) (v : Word) : (s.setCrcState v).brightness = s.brightness := rfl
@[simp] theorem State.setCrcState_bufLen (s : State) (v : Word) : (s.setCrcState v).bufLen = s.bufLen := rfl
@[simp] theorem State.setCrcState_pbAddr (s : State) (v : Word) : (s.setCrcState v).pbAddr = s.pbAddr := rfl
@[simp] theorem State.setCrcState_crcState (s : State) (v : Word) : (s.setCrcState v).crcState = v := rfl
@[simp] theorem State.setCrcState_lastCrc (s : State) (v : Word) : (s.setCrcState v).lastCrc = s.lastCrc := rfl
@[simp] theorem State.setCrcState_txCount (s : State) (v : Word) : (s.setCrcState v).txCount = s.txCount := rfl
@[simp] theorem State.setCrcState_seqState (s : State) (v : Word) : (s.setCrcState v).seqState = s.seqState := rfl
@[simp] theorem State.setCrcState_seqPos (s : State) (v : Word) : (s.setCrcState v).seqPos = s.seqPos := rfl
@[simp] theorem State.setCrcState_fc (s : State) (v : Word) : (s.setCrcState v).fc = s.fc := rfl
@[simp] theorem State.setCrcState_frameCrc (s : State) (v : Word) : (s.setCrcState v).frameCrc = s.frameCrc := rfl
@[simp] theorem State.setCrcState_pixbuf (s : State) (v : Word) : (s.setCrcState v).pixbuf = s.pixbuf := rfl
@[simp] theorem State.setCrcState_wire (s : State) (v : Word) : (s.setCrcState v).wire = s.wire := rfl
@[simp] theorem State.setCrcState_rdataLog (s : State) (v : Word) : (s.setCrcState v).rdataLog = s.rdataLog := rfl
@[simp] theorem State.setCrcState_resets (s : State) (v : Word) : (s.setCrcState v).resets = s.resets := rfl
@[simp] theorem State.setCrcState_inputs (s : State) (v : Word) : (s.setCrcState v).inputs = s.inputs := rfl
@[simp] theorem State.setCrcState_config (s : State) (v : Word) : (s.setCrcState v).config = s.config := rfl

/-! ### `storePixels` -/

@[simp] theorem State.storePixels_status (s : State) (bs : List Byte) : (s.storePixels bs).status = s.status := rfl
@[simp] theorem State.storePixels_channel (s : State) (bs : List Byte) : (s.storePixels bs).channel = s.channel := rfl
@[simp] theorem State.storePixels_rectype (s : State) (bs : List Byte) : (s.storePixels bs).rectype = s.rectype := rfl
@[simp] theorem State.storePixels_colorOrder (s : State) (bs : List Byte) : (s.storePixels bs).colorOrder = s.colorOrder := rfl
@[simp] theorem State.storePixels_pixelCount (s : State) (bs : List Byte) : (s.storePixels bs).pixelCount = s.pixelCount := rfl
@[simp] theorem State.storePixels_frequency (s : State) (bs : List Byte) : (s.storePixels bs).frequency = s.frequency := rfl
@[simp] theorem State.storePixels_brightness (s : State) (bs : List Byte) : (s.storePixels bs).brightness = s.brightness := rfl
@[simp] theorem State.storePixels_bufLen (s : State) (bs : List Byte) : (s.storePixels bs).bufLen = s.bufLen := rfl
@[simp] theorem State.storePixels_pbAddr (s : State) (bs : List Byte) : (s.storePixels bs).pbAddr = BitVec.ofNat 32 ((s.pbAddr.toNat + bs.length) % s.pixbufBytes) := rfl
@[simp] theorem State.storePixels_crcState (s : State) (bs : List Byte) : (s.storePixels bs).crcState = s.crcState := rfl
@[simp] theorem State.storePixels_lastCrc (s : State) (bs : List Byte) : (s.storePixels bs).lastCrc = s.lastCrc := rfl
@[simp] theorem State.storePixels_txCount (s : State) (bs : List Byte) : (s.storePixels bs).txCount = s.txCount := rfl
@[simp] theorem State.storePixels_seqState (s : State) (bs : List Byte) : (s.storePixels bs).seqState = s.seqState := rfl
@[simp] theorem State.storePixels_seqPos (s : State) (bs : List Byte) : (s.storePixels bs).seqPos = s.seqPos := rfl
@[simp] theorem State.storePixels_fc (s : State) (bs : List Byte) : (s.storePixels bs).fc = s.fc := rfl
@[simp] theorem State.storePixels_frameCrc (s : State) (bs : List Byte) : (s.storePixels bs).frameCrc = s.frameCrc := rfl
@[simp] theorem State.storePixels_pixbuf (s : State) (bs : List Byte) : (s.storePixels bs).pixbuf = memStoreBytes s.pixbufBytes s.pixbuf s.pbAddr.toNat bs := rfl
@[simp] theorem State.storePixels_wire (s : State) (bs : List Byte) : (s.storePixels bs).wire = s.wire := rfl
@[simp] theorem State.storePixels_rdataLog (s : State) (bs : List Byte) : (s.storePixels bs).rdataLog = s.rdataLog := rfl
@[simp] theorem State.storePixels_resets (s : State) (bs : List Byte) : (s.storePixels bs).resets = s.resets := rfl
@[simp] theorem State.storePixels_inputs (s : State) (bs : List Byte) : (s.storePixels bs).inputs = s.inputs := rfl
@[simp] theorem State.storePixels_config (s : State) (bs : List Byte) : (s.storePixels bs).config = s.config := rfl

/-! ### `raise` -/

@[simp] theorem State.raise_status (s : State) (e : BlockError) : (s.raise e).status = s.status.setError e := rfl
@[simp] theorem State.raise_channel (s : State) (e : BlockError) : (s.raise e).channel = s.channel := rfl
@[simp] theorem State.raise_rectype (s : State) (e : BlockError) : (s.raise e).rectype = s.rectype := rfl
@[simp] theorem State.raise_colorOrder (s : State) (e : BlockError) : (s.raise e).colorOrder = s.colorOrder := rfl
@[simp] theorem State.raise_pixelCount (s : State) (e : BlockError) : (s.raise e).pixelCount = s.pixelCount := rfl
@[simp] theorem State.raise_frequency (s : State) (e : BlockError) : (s.raise e).frequency = s.frequency := rfl
@[simp] theorem State.raise_brightness (s : State) (e : BlockError) : (s.raise e).brightness = s.brightness := rfl
@[simp] theorem State.raise_bufLen (s : State) (e : BlockError) : (s.raise e).bufLen = s.bufLen := rfl
@[simp] theorem State.raise_pbAddr (s : State) (e : BlockError) : (s.raise e).pbAddr = s.pbAddr := rfl
@[simp] theorem State.raise_crcState (s : State) (e : BlockError) : (s.raise e).crcState = s.crcState := rfl
@[simp] theorem State.raise_lastCrc (s : State) (e : BlockError) : (s.raise e).lastCrc = s.lastCrc := rfl
@[simp] theorem State.raise_txCount (s : State) (e : BlockError) : (s.raise e).txCount = s.txCount := rfl
@[simp] theorem State.raise_seqState (s : State) (e : BlockError) : (s.raise e).seqState = s.seqState := rfl
@[simp] theorem State.raise_seqPos (s : State) (e : BlockError) : (s.raise e).seqPos = s.seqPos := rfl
@[simp] theorem State.raise_fc (s : State) (e : BlockError) : (s.raise e).fc = s.fc := rfl
@[simp] theorem State.raise_frameCrc (s : State) (e : BlockError) : (s.raise e).frameCrc = s.frameCrc := rfl
@[simp] theorem State.raise_pixbuf (s : State) (e : BlockError) : (s.raise e).pixbuf = s.pixbuf := rfl
@[simp] theorem State.raise_wire (s : State) (e : BlockError) : (s.raise e).wire = s.wire := rfl
@[simp] theorem State.raise_rdataLog (s : State) (e : BlockError) : (s.raise e).rdataLog = s.rdataLog := rfl
@[simp] theorem State.raise_resets (s : State) (e : BlockError) : (s.raise e).resets = s.resets := rfl
@[simp] theorem State.raise_inputs (s : State) (e : BlockError) : (s.raise e).inputs = s.inputs := rfl
@[simp] theorem State.raise_config (s : State) (e : BlockError) : (s.raise e).config = s.config := rfl

/-! ### `w1c` -/

@[simp] theorem State.w1c_status (s : State) (d : Word) : (s.w1c d).status = s.status.w1c d := rfl
@[simp] theorem State.w1c_channel (s : State) (d : Word) : (s.w1c d).channel = s.channel := rfl
@[simp] theorem State.w1c_rectype (s : State) (d : Word) : (s.w1c d).rectype = s.rectype := rfl
@[simp] theorem State.w1c_colorOrder (s : State) (d : Word) : (s.w1c d).colorOrder = s.colorOrder := rfl
@[simp] theorem State.w1c_pixelCount (s : State) (d : Word) : (s.w1c d).pixelCount = s.pixelCount := rfl
@[simp] theorem State.w1c_frequency (s : State) (d : Word) : (s.w1c d).frequency = s.frequency := rfl
@[simp] theorem State.w1c_brightness (s : State) (d : Word) : (s.w1c d).brightness = s.brightness := rfl
@[simp] theorem State.w1c_bufLen (s : State) (d : Word) : (s.w1c d).bufLen = s.bufLen := rfl
@[simp] theorem State.w1c_pbAddr (s : State) (d : Word) : (s.w1c d).pbAddr = s.pbAddr := rfl
@[simp] theorem State.w1c_crcState (s : State) (d : Word) : (s.w1c d).crcState = s.crcState := rfl
@[simp] theorem State.w1c_lastCrc (s : State) (d : Word) : (s.w1c d).lastCrc = s.lastCrc := rfl
@[simp] theorem State.w1c_txCount (s : State) (d : Word) : (s.w1c d).txCount = s.txCount := rfl
@[simp] theorem State.w1c_seqState (s : State) (d : Word) : (s.w1c d).seqState = s.seqState := rfl
@[simp] theorem State.w1c_seqPos (s : State) (d : Word) : (s.w1c d).seqPos = s.seqPos := rfl
@[simp] theorem State.w1c_fc (s : State) (d : Word) : (s.w1c d).fc = s.fc := rfl
@[simp] theorem State.w1c_frameCrc (s : State) (d : Word) : (s.w1c d).frameCrc = s.frameCrc := rfl
@[simp] theorem State.w1c_pixbuf (s : State) (d : Word) : (s.w1c d).pixbuf = s.pixbuf := rfl
@[simp] theorem State.w1c_wire (s : State) (d : Word) : (s.w1c d).wire = s.wire := rfl
@[simp] theorem State.w1c_rdataLog (s : State) (d : Word) : (s.w1c d).rdataLog = s.rdataLog := rfl
@[simp] theorem State.w1c_resets (s : State) (d : Word) : (s.w1c d).resets = s.resets := rfl
@[simp] theorem State.w1c_inputs (s : State) (d : Word) : (s.w1c d).inputs = s.inputs := rfl
@[simp] theorem State.w1c_config (s : State) (d : Word) : (s.w1c d).config = s.config := rfl

/-! ### `latch` -/

@[simp] theorem State.latch_status (s : State) (c : FrameContext) : (s.latch c).status = s.status.clearResults := rfl
@[simp] theorem State.latch_channel (s : State) (c : FrameContext) : (s.latch c).channel = s.channel := rfl
@[simp] theorem State.latch_rectype (s : State) (c : FrameContext) : (s.latch c).rectype = s.rectype := rfl
@[simp] theorem State.latch_colorOrder (s : State) (c : FrameContext) : (s.latch c).colorOrder = s.colorOrder := rfl
@[simp] theorem State.latch_pixelCount (s : State) (c : FrameContext) : (s.latch c).pixelCount = s.pixelCount := rfl
@[simp] theorem State.latch_frequency (s : State) (c : FrameContext) : (s.latch c).frequency = s.frequency := rfl
@[simp] theorem State.latch_brightness (s : State) (c : FrameContext) : (s.latch c).brightness = s.brightness := rfl
@[simp] theorem State.latch_bufLen (s : State) (c : FrameContext) : (s.latch c).bufLen = s.bufLen := rfl
@[simp] theorem State.latch_pbAddr (s : State) (c : FrameContext) : (s.latch c).pbAddr = s.pbAddr := rfl
@[simp] theorem State.latch_crcState (s : State) (c : FrameContext) : (s.latch c).crcState = s.crcState := rfl
@[simp] theorem State.latch_lastCrc (s : State) (c : FrameContext) : (s.latch c).lastCrc = s.lastCrc := rfl
@[simp] theorem State.latch_txCount (s : State) (c : FrameContext) : (s.latch c).txCount = s.txCount := rfl
@[simp] theorem State.latch_seqState (s : State) (c : FrameContext) : (s.latch c).seqState = s.seqState := rfl
@[simp] theorem State.latch_seqPos (s : State) (c : FrameContext) : (s.latch c).seqPos = s.seqPos := rfl
@[simp] theorem State.latch_fc (s : State) (c : FrameContext) : (s.latch c).fc = c := rfl
@[simp] theorem State.latch_frameCrc (s : State) (c : FrameContext) : (s.latch c).frameCrc = s.frameCrc := rfl
@[simp] theorem State.latch_pixbuf (s : State) (c : FrameContext) : (s.latch c).pixbuf = s.pixbuf := rfl
@[simp] theorem State.latch_wire (s : State) (c : FrameContext) : (s.latch c).wire = s.wire := rfl
@[simp] theorem State.latch_rdataLog (s : State) (c : FrameContext) : (s.latch c).rdataLog = s.rdataLog := rfl
@[simp] theorem State.latch_resets (s : State) (c : FrameContext) : (s.latch c).resets = s.resets := rfl
@[simp] theorem State.latch_inputs (s : State) (c : FrameContext) : (s.latch c).inputs = s.inputs := rfl
@[simp] theorem State.latch_config (s : State) (c : FrameContext) : (s.latch c).config = s.config := rfl

/-! ### `refuseLength` -/

@[simp] theorem State.refuseLength_status (s : State) : (s.refuseLength).status = (s.status.setError .lenErr).setDone := rfl
@[simp] theorem State.refuseLength_channel (s : State) : (s.refuseLength).channel = s.channel := rfl
@[simp] theorem State.refuseLength_rectype (s : State) : (s.refuseLength).rectype = s.rectype := rfl
@[simp] theorem State.refuseLength_colorOrder (s : State) : (s.refuseLength).colorOrder = s.colorOrder := rfl
@[simp] theorem State.refuseLength_pixelCount (s : State) : (s.refuseLength).pixelCount = s.pixelCount := rfl
@[simp] theorem State.refuseLength_frequency (s : State) : (s.refuseLength).frequency = s.frequency := rfl
@[simp] theorem State.refuseLength_brightness (s : State) : (s.refuseLength).brightness = s.brightness := rfl
@[simp] theorem State.refuseLength_bufLen (s : State) : (s.refuseLength).bufLen = s.bufLen := rfl
@[simp] theorem State.refuseLength_pbAddr (s : State) : (s.refuseLength).pbAddr = s.pbAddr := rfl
@[simp] theorem State.refuseLength_crcState (s : State) : (s.refuseLength).crcState = s.crcState := rfl
@[simp] theorem State.refuseLength_lastCrc (s : State) : (s.refuseLength).lastCrc = s.lastCrc := rfl
@[simp] theorem State.refuseLength_txCount (s : State) : (s.refuseLength).txCount = s.txCount := rfl
@[simp] theorem State.refuseLength_seqState (s : State) : (s.refuseLength).seqState = s.seqState := rfl
@[simp] theorem State.refuseLength_seqPos (s : State) : (s.refuseLength).seqPos = s.seqPos := rfl
@[simp] theorem State.refuseLength_fc (s : State) : (s.refuseLength).fc = s.fc := rfl
@[simp] theorem State.refuseLength_frameCrc (s : State) : (s.refuseLength).frameCrc = s.frameCrc := rfl
@[simp] theorem State.refuseLength_pixbuf (s : State) : (s.refuseLength).pixbuf = s.pixbuf := rfl
@[simp] theorem State.refuseLength_wire (s : State) : (s.refuseLength).wire = s.wire := rfl
@[simp] theorem State.refuseLength_rdataLog (s : State) : (s.refuseLength).rdataLog = s.rdataLog := rfl
@[simp] theorem State.refuseLength_resets (s : State) : (s.refuseLength).resets = s.resets := rfl
@[simp] theorem State.refuseLength_inputs (s : State) : (s.refuseLength).inputs = s.inputs := rfl
@[simp] theorem State.refuseLength_config (s : State) : (s.refuseLength).config = s.config := rfl

/-! ### `startFrame` -/

@[simp] theorem State.startFrame_status (s : State) : (s.startFrame).status = s.status := rfl
@[simp] theorem State.startFrame_channel (s : State) : (s.startFrame).channel = s.channel := rfl
@[simp] theorem State.startFrame_rectype (s : State) : (s.startFrame).rectype = s.rectype := rfl
@[simp] theorem State.startFrame_colorOrder (s : State) : (s.startFrame).colorOrder = s.colorOrder := rfl
@[simp] theorem State.startFrame_pixelCount (s : State) : (s.startFrame).pixelCount = s.pixelCount := rfl
@[simp] theorem State.startFrame_frequency (s : State) : (s.startFrame).frequency = s.frequency := rfl
@[simp] theorem State.startFrame_brightness (s : State) : (s.startFrame).brightness = s.brightness := rfl
@[simp] theorem State.startFrame_bufLen (s : State) : (s.startFrame).bufLen = s.bufLen := rfl
@[simp] theorem State.startFrame_pbAddr (s : State) : (s.startFrame).pbAddr = s.pbAddr := rfl
@[simp] theorem State.startFrame_crcState (s : State) : (s.startFrame).crcState = s.crcState := rfl
@[simp] theorem State.startFrame_lastCrc (s : State) : (s.startFrame).lastCrc = s.lastCrc := rfl
@[simp] theorem State.startFrame_txCount (s : State) : (s.startFrame).txCount = 0 := rfl
@[simp] theorem State.startFrame_seqState (s : State) : (s.startFrame).seqState = .frame := rfl
@[simp] theorem State.startFrame_seqPos (s : State) : (s.startFrame).seqPos = 0 := rfl
@[simp] theorem State.startFrame_fc (s : State) : (s.startFrame).fc = s.fc := rfl
@[simp] theorem State.startFrame_frameCrc (s : State) : (s.startFrame).frameCrc = crcInit := rfl
@[simp] theorem State.startFrame_pixbuf (s : State) : (s.startFrame).pixbuf = s.pixbuf := rfl
@[simp] theorem State.startFrame_wire (s : State) : (s.startFrame).wire = s.wire := rfl
@[simp] theorem State.startFrame_rdataLog (s : State) : (s.startFrame).rdataLog = s.rdataLog := rfl
@[simp] theorem State.startFrame_resets (s : State) : (s.startFrame).resets = s.resets := rfl
@[simp] theorem State.startFrame_inputs (s : State) : (s.startFrame).inputs = s.inputs := rfl
@[simp] theorem State.startFrame_config (s : State) : (s.startFrame).config = s.config := rfl

/-! ### `sendByte` -/

@[simp] theorem State.sendByte_status (s : State) (b : Byte) : (s.sendByte b).status = s.status := rfl
@[simp] theorem State.sendByte_channel (s : State) (b : Byte) : (s.sendByte b).channel = s.channel := rfl
@[simp] theorem State.sendByte_rectype (s : State) (b : Byte) : (s.sendByte b).rectype = s.rectype := rfl
@[simp] theorem State.sendByte_colorOrder (s : State) (b : Byte) : (s.sendByte b).colorOrder = s.colorOrder := rfl
@[simp] theorem State.sendByte_pixelCount (s : State) (b : Byte) : (s.sendByte b).pixelCount = s.pixelCount := rfl
@[simp] theorem State.sendByte_frequency (s : State) (b : Byte) : (s.sendByte b).frequency = s.frequency := rfl
@[simp] theorem State.sendByte_brightness (s : State) (b : Byte) : (s.sendByte b).brightness = s.brightness := rfl
@[simp] theorem State.sendByte_bufLen (s : State) (b : Byte) : (s.sendByte b).bufLen = s.bufLen := rfl
@[simp] theorem State.sendByte_pbAddr (s : State) (b : Byte) : (s.sendByte b).pbAddr = s.pbAddr := rfl
@[simp] theorem State.sendByte_crcState (s : State) (b : Byte) : (s.sendByte b).crcState = s.crcState := rfl
@[simp] theorem State.sendByte_lastCrc (s : State) (b : Byte) : (s.sendByte b).lastCrc = s.lastCrc := rfl
@[simp] theorem State.sendByte_txCount (s : State) (b : Byte) : (s.sendByte b).txCount = s.txCount + 1 := rfl
@[simp] theorem State.sendByte_seqState (s : State) (b : Byte) : (s.sendByte b).seqState = s.seqState := rfl
@[simp] theorem State.sendByte_seqPos (s : State) (b : Byte) : (s.sendByte b).seqPos = s.seqPos + 1 := rfl
@[simp] theorem State.sendByte_fc (s : State) (b : Byte) : (s.sendByte b).fc = s.fc := rfl
@[simp] theorem State.sendByte_frameCrc (s : State) (b : Byte) : (s.sendByte b).frameCrc = s.frameCrc := rfl
@[simp] theorem State.sendByte_pixbuf (s : State) (b : Byte) : (s.sendByte b).pixbuf = s.pixbuf := rfl
@[simp] theorem State.sendByte_wire (s : State) (b : Byte) : (s.sendByte b).wire = s.wire ++ [b] := rfl
@[simp] theorem State.sendByte_rdataLog (s : State) (b : Byte) : (s.sendByte b).rdataLog = s.rdataLog := rfl
@[simp] theorem State.sendByte_resets (s : State) (b : Byte) : (s.sendByte b).resets = s.resets := rfl
@[simp] theorem State.sendByte_inputs (s : State) (b : Byte) : (s.sendByte b).inputs = s.inputs := rfl
@[simp] theorem State.sendByte_config (s : State) (b : Byte) : (s.sendByte b).config = s.config := rfl

/-! ### `foldFrame` -/

@[simp] theorem State.foldFrame_status (s : State) (b : Byte) : (s.foldFrame b).status = s.status := rfl
@[simp] theorem State.foldFrame_channel (s : State) (b : Byte) : (s.foldFrame b).channel = s.channel := rfl
@[simp] theorem State.foldFrame_rectype (s : State) (b : Byte) : (s.foldFrame b).rectype = s.rectype := rfl
@[simp] theorem State.foldFrame_colorOrder (s : State) (b : Byte) : (s.foldFrame b).colorOrder = s.colorOrder := rfl
@[simp] theorem State.foldFrame_pixelCount (s : State) (b : Byte) : (s.foldFrame b).pixelCount = s.pixelCount := rfl
@[simp] theorem State.foldFrame_frequency (s : State) (b : Byte) : (s.foldFrame b).frequency = s.frequency := rfl
@[simp] theorem State.foldFrame_brightness (s : State) (b : Byte) : (s.foldFrame b).brightness = s.brightness := rfl
@[simp] theorem State.foldFrame_bufLen (s : State) (b : Byte) : (s.foldFrame b).bufLen = s.bufLen := rfl
@[simp] theorem State.foldFrame_pbAddr (s : State) (b : Byte) : (s.foldFrame b).pbAddr = s.pbAddr := rfl
@[simp] theorem State.foldFrame_crcState (s : State) (b : Byte) : (s.foldFrame b).crcState = s.crcState := rfl
@[simp] theorem State.foldFrame_lastCrc (s : State) (b : Byte) : (s.foldFrame b).lastCrc = s.lastCrc := rfl
@[simp] theorem State.foldFrame_txCount (s : State) (b : Byte) : (s.foldFrame b).txCount = s.txCount := rfl
@[simp] theorem State.foldFrame_seqState (s : State) (b : Byte) : (s.foldFrame b).seqState = s.seqState := rfl
@[simp] theorem State.foldFrame_seqPos (s : State) (b : Byte) : (s.foldFrame b).seqPos = s.seqPos := rfl
@[simp] theorem State.foldFrame_fc (s : State) (b : Byte) : (s.foldFrame b).fc = s.fc := rfl
@[simp] theorem State.foldFrame_frameCrc (s : State) (b : Byte) : (s.foldFrame b).frameCrc = fold s.frameCrc b := rfl
@[simp] theorem State.foldFrame_pixbuf (s : State) (b : Byte) : (s.foldFrame b).pixbuf = s.pixbuf := rfl
@[simp] theorem State.foldFrame_wire (s : State) (b : Byte) : (s.foldFrame b).wire = s.wire := rfl
@[simp] theorem State.foldFrame_rdataLog (s : State) (b : Byte) : (s.foldFrame b).rdataLog = s.rdataLog := rfl
@[simp] theorem State.foldFrame_resets (s : State) (b : Byte) : (s.foldFrame b).resets = s.resets := rfl
@[simp] theorem State.foldFrame_inputs (s : State) (b : Byte) : (s.foldFrame b).inputs = s.inputs := rfl
@[simp] theorem State.foldFrame_config (s : State) (b : Byte) : (s.foldFrame b).config = s.config := rfl

/-! ### `complete` -/

@[simp] theorem State.complete_status (s : State) : (s.complete).status = s.status.setDone := rfl
@[simp] theorem State.complete_channel (s : State) : (s.complete).channel = s.channel := rfl
@[simp] theorem State.complete_rectype (s : State) : (s.complete).rectype = s.rectype := rfl
@[simp] theorem State.complete_colorOrder (s : State) : (s.complete).colorOrder = s.colorOrder := rfl
@[simp] theorem State.complete_pixelCount (s : State) : (s.complete).pixelCount = s.pixelCount := rfl
@[simp] theorem State.complete_frequency (s : State) : (s.complete).frequency = s.frequency := rfl
@[simp] theorem State.complete_brightness (s : State) : (s.complete).brightness = s.brightness := rfl
@[simp] theorem State.complete_bufLen (s : State) : (s.complete).bufLen = s.bufLen := rfl
@[simp] theorem State.complete_pbAddr (s : State) : (s.complete).pbAddr = s.pbAddr := rfl
@[simp] theorem State.complete_crcState (s : State) : (s.complete).crcState = s.crcState := rfl
@[simp] theorem State.complete_lastCrc (s : State) : (s.complete).lastCrc = ~~~ s.frameCrc := rfl
@[simp] theorem State.complete_txCount (s : State) : (s.complete).txCount = s.txCount := rfl
@[simp] theorem State.complete_seqState (s : State) : (s.complete).seqState = .idle := rfl
@[simp] theorem State.complete_seqPos (s : State) : (s.complete).seqPos = s.seqPos := rfl
@[simp] theorem State.complete_fc (s : State) : (s.complete).fc = s.fc := rfl
@[simp] theorem State.complete_frameCrc (s : State) : (s.complete).frameCrc = s.frameCrc := rfl
@[simp] theorem State.complete_pixbuf (s : State) : (s.complete).pixbuf = s.pixbuf := rfl
@[simp] theorem State.complete_wire (s : State) : (s.complete).wire = s.wire := rfl
@[simp] theorem State.complete_rdataLog (s : State) : (s.complete).rdataLog = s.rdataLog := rfl
@[simp] theorem State.complete_resets (s : State) : (s.complete).resets = s.resets := rfl
@[simp] theorem State.complete_inputs (s : State) : (s.complete).inputs = s.inputs := rfl
@[simp] theorem State.complete_config (s : State) : (s.complete).config = s.config := rfl

/-! ### `failFrame` -/

@[simp] theorem State.failFrame_status (s : State) : (s.failFrame).status = (s.status.setError .txFail).setDone := rfl
@[simp] theorem State.failFrame_channel (s : State) : (s.failFrame).channel = s.channel := rfl
@[simp] theorem State.failFrame_rectype (s : State) : (s.failFrame).rectype = s.rectype := rfl
@[simp] theorem State.failFrame_colorOrder (s : State) : (s.failFrame).colorOrder = s.colorOrder := rfl
@[simp] theorem State.failFrame_pixelCount (s : State) : (s.failFrame).pixelCount = s.pixelCount := rfl
@[simp] theorem State.failFrame_frequency (s : State) : (s.failFrame).frequency = s.frequency := rfl
@[simp] theorem State.failFrame_brightness (s : State) : (s.failFrame).brightness = s.brightness := rfl
@[simp] theorem State.failFrame_bufLen (s : State) : (s.failFrame).bufLen = s.bufLen := rfl
@[simp] theorem State.failFrame_pbAddr (s : State) : (s.failFrame).pbAddr = s.pbAddr := rfl
@[simp] theorem State.failFrame_crcState (s : State) : (s.failFrame).crcState = s.crcState := rfl
@[simp] theorem State.failFrame_lastCrc (s : State) : (s.failFrame).lastCrc = s.lastCrc := rfl
@[simp] theorem State.failFrame_txCount (s : State) : (s.failFrame).txCount = s.txCount := rfl
@[simp] theorem State.failFrame_seqState (s : State) : (s.failFrame).seqState = .idle := rfl
@[simp] theorem State.failFrame_seqPos (s : State) : (s.failFrame).seqPos = s.seqPos := rfl
@[simp] theorem State.failFrame_fc (s : State) : (s.failFrame).fc = s.fc := rfl
@[simp] theorem State.failFrame_frameCrc (s : State) : (s.failFrame).frameCrc = s.frameCrc := rfl
@[simp] theorem State.failFrame_pixbuf (s : State) : (s.failFrame).pixbuf = s.pixbuf := rfl
@[simp] theorem State.failFrame_wire (s : State) : (s.failFrame).wire = s.wire := rfl
@[simp] theorem State.failFrame_rdataLog (s : State) : (s.failFrame).rdataLog = s.rdataLog := rfl
@[simp] theorem State.failFrame_resets (s : State) : (s.failFrame).resets = s.resets := rfl
@[simp] theorem State.failFrame_inputs (s : State) : (s.failFrame).inputs = s.inputs := rfl
@[simp] theorem State.failFrame_config (s : State) : (s.failFrame).config = s.config := rfl

/-! ### `resetBlock` -/

@[simp] theorem State.resetBlock_status (s : State) : (s.resetBlock).status = State.reset.status := rfl
@[simp] theorem State.resetBlock_channel (s : State) : (s.resetBlock).channel = State.reset.channel := rfl
@[simp] theorem State.resetBlock_rectype (s : State) : (s.resetBlock).rectype = State.reset.rectype := rfl
@[simp] theorem State.resetBlock_colorOrder (s : State) : (s.resetBlock).colorOrder = State.reset.colorOrder := rfl
@[simp] theorem State.resetBlock_pixelCount (s : State) : (s.resetBlock).pixelCount = State.reset.pixelCount := rfl
@[simp] theorem State.resetBlock_frequency (s : State) : (s.resetBlock).frequency = State.reset.frequency := rfl
@[simp] theorem State.resetBlock_brightness (s : State) : (s.resetBlock).brightness = State.reset.brightness := rfl
@[simp] theorem State.resetBlock_bufLen (s : State) : (s.resetBlock).bufLen = State.reset.bufLen := rfl
@[simp] theorem State.resetBlock_pbAddr (s : State) : (s.resetBlock).pbAddr = State.reset.pbAddr := rfl
@[simp] theorem State.resetBlock_crcState (s : State) : (s.resetBlock).crcState = State.reset.crcState := rfl
@[simp] theorem State.resetBlock_lastCrc (s : State) : (s.resetBlock).lastCrc = State.reset.lastCrc := rfl
@[simp] theorem State.resetBlock_txCount (s : State) : (s.resetBlock).txCount = State.reset.txCount := rfl
@[simp] theorem State.resetBlock_seqState (s : State) : (s.resetBlock).seqState = State.reset.seqState := rfl
@[simp] theorem State.resetBlock_seqPos (s : State) : (s.resetBlock).seqPos = State.reset.seqPos := rfl
@[simp] theorem State.resetBlock_fc (s : State) : (s.resetBlock).fc = State.reset.fc := rfl
@[simp] theorem State.resetBlock_frameCrc (s : State) : (s.resetBlock).frameCrc = State.reset.frameCrc := rfl
@[simp] theorem State.resetBlock_pixbuf (s : State) : (s.resetBlock).pixbuf = State.reset.pixbuf := rfl
@[simp] theorem State.resetBlock_wire (s : State) : (s.resetBlock).wire = s.wire := rfl
@[simp] theorem State.resetBlock_rdataLog (s : State) : (s.resetBlock).rdataLog = s.rdataLog := rfl
@[simp] theorem State.resetBlock_resets (s : State) : (s.resetBlock).resets = s.resets + 1 := rfl
@[simp] theorem State.resetBlock_inputs (s : State) : (s.resetBlock).inputs = s.inputs := rfl
@[simp] theorem State.resetBlock_config (s : State) : (s.resetBlock).config = s.config := rfl

end Sys2Proof.Machine
end

