-- ==== Sys2Proof/Laws/Memory.lean ====
section
/-! SUPPORT. The laws of the pixel buffer: a read after a write, what a write leaves alone, and the canonical form, which every
memory operation keeps. -/

namespace Sys2Proof.Machine

/-- A read after a write to the same address gives the byte written. -/
@[simp] theorem memLookup_memStore_same (m : Memory) (a : Nat) (b : Byte) : memLookup (memStore m a b) a = some b := by
  induction m with
  | nil => simp [memStore, memLookup]
  | cons c m ih =>
    obtain ⟨k, v⟩ := c
    simp only [memStore]
    split
    · simp [memLookup]
    · split
      · simp [memLookup]
      · rename_i h
        simp [memLookup, Ne.symm h, ih]

/-- A write leaves every other address alone. -/
theorem memLookup_memStore_other (m : Memory) {a a' : Nat} (b : Byte) (h : a' ≠ a) :
    memLookup (memStore m a b) a' = memLookup m a' := by
  induction m with
  | nil => simp [memStore, memLookup, Ne.symm h]
  | cons c m ih =>
    obtain ⟨k, v⟩ := c
    simp only [memStore]
    split
    · simp [memLookup, Ne.symm h]
    · split
      · rename_i hk
        subst hk
        simp [memLookup, Ne.symm h]
      · simp [memLookup, ih]

/-- Every entry after a write is the byte written or was there before. -/
theorem mem_memStore {m : Memory} {a : Nat} {b : Byte} {c : Host.Cell} (h : c ∈ memStore m a b) :
    c = (a, b) ∨ c ∈ m := by
  induction m with
  | nil => simpa [memStore] using h
  | cons d m ih =>
    obtain ⟨k, v⟩ := d
    simp only [memStore] at h
    split at h
    · simpa using h
    · split at h
      · rcases List.mem_cons.1 h with h | h
        · exact .inl h
        · exact .inr (List.mem_cons_of_mem _ h)
      · rcases List.mem_cons.1 h with h | h
        · exact .inr (h ▸ List.mem_cons_self)
        · exact (ih h).imp_right (List.mem_cons_of_mem _)

/-- A write keeps the canonical form. -/
theorem memStore_wf {m : Memory} (a : Nat) (b : Byte) (h : m.wf) : (memStore m a b).wf := by
  induction m with
  | nil => simp [memStore, Memory.wf]
  | cons d m ih =>
    obtain ⟨k, v⟩ := d
    obtain ⟨hk, hm⟩ := List.pairwise_cons.1 h
    simp only [memStore]
    split
    · rename_i hlt
      refine List.pairwise_cons.2 ⟨fun c hc => ?_, h⟩
      rcases List.mem_cons.1 hc with rfl | hc
      · exact hlt
      · exact Nat.lt_trans hlt (hk c hc)
    · split
      · rename_i _ heq
        subst heq
        exact List.pairwise_cons.2 ⟨hk, hm⟩
      · rename_i hge hne
        refine List.pairwise_cons.2 ⟨fun c hc => ?_, ih hm⟩
        rcases mem_memStore hc with rfl | hc
        · exact Nat.lt_of_le_of_ne (Nat.not_lt.1 hge) (Ne.symm hne)
        · exact hk c hc

/-- A write of several bytes keeps the canonical form. -/
theorem memStoreBytes_wf (n : Nat) {m : Memory} (a : Nat) (bs : List Byte) (h : m.wf) :
    (memStoreBytes n m a bs).wf := by
  induction bs generalizing m a with
  | nil => exact h
  | cons b bs ih => exact ih (a + 1) (memStore_wf (a % n) b h)

/-- A write of several bytes stays inside the buffer. -/
theorem memStoreBytes_inside {n : Nat} (hn : 0 < n) {m : Memory} (a : Nat) (bs : List Byte)
    (h : ∀ c ∈ m, c.1 < n) : ∀ c ∈ memStoreBytes n m a bs, c.1 < n := by
  induction bs generalizing m a with
  | nil => exact h
  | cons b bs ih =>
    refine ih (a + 1) (fun c hc => ?_)
    rcases mem_memStore hc with rfl | hc
    · exact Nat.mod_lt _ hn
    · exact h c hc

/-- Once everything a write of several bytes can do to another address: nothing. -/
theorem memLookup_memStoreBytes_other (n : Nat) (m : Memory) (a a' : Nat) (bs : List Byte)
    (h : ∀ k < bs.length, a' ≠ (a + k) % n) : memLookup (memStoreBytes n m a bs) a' = memLookup m a' := by
  induction bs generalizing m a with
  | nil => rfl
  | cons b bs ih =>
    have h0 : a' ≠ a % n := by simpa using h 0 (by simp)
    rw [memStoreBytes, ih]
    · exact memLookup_memStore_other m b h0
    · intro k hk
      have := h (k + 1) (by simpa using hk)
      rwa [show a + 1 + k = a + (k + 1) by omega]

/-- PIXBUF_BYTES is positive. -/
theorem State.pixbufBytes_pos (s : State) : 0 < s.pixbufBytes := Nat.two_pow_pos _

/-- PIXBUF_BYTES of a legal configuration is at least 256 and at most 2^24. -/
theorem State.pixbufBytes_bounds {s : State} (h : s.config.Legal) : 256 ≤ s.pixbufBytes ∧ s.pixbufBytes ≤ 2 ^ 24 :=
  ⟨Nat.pow_le_pow_right (n := 2) (by decide) h.1, Nat.pow_le_pow_right (n := 2) (by decide) h.2⟩

/-- `PB[a]` depends only on the written bytes, the resets and the configuration. -/
theorem State.pb_congr {s t : State} (hp : t.pixbuf = s.pixbuf) (hr : t.resets = s.resets) (hc : t.config = s.config) :
    t.pb = s.pb := by
  funext a
  simp [State.pb, State.pixbufBytes, hp, hr, hc]

/-- What MemWrite at PB_ADDR leaves alone: `PB[a]` at every address it does not store to. -/
theorem State.pb_storePixels_other (s : State) (bs : List Byte) (a : Nat)
    (h : ∀ k < bs.length, a % s.pixbufBytes ≠ (s.pbAddr.toNat + k) % s.pixbufBytes) :
    (s.storePixels bs).pb a = s.pb a := by
  have hb : (s.storePixels bs).pixbufBytes = s.pixbufBytes := rfl
  simp only [State.pb, hb, State.storePixels_pixbuf, State.storePixels_resets]
  rw [memLookup_memStoreBytes_other _ _ _ _ _ h]

/-- The canonical form and the bounds of the pixel buffer are kept by MemWrite. -/
theorem State.storePixels_bufferOk {s : State} (bs : List Byte) (h : (s.pixbuf : Memory).wf)
    (hi : ∀ c ∈ s.pixbuf, c.1 < s.pixbufBytes) :
    ((s.storePixels bs).pixbuf : Memory).wf ∧ ∀ c ∈ (s.storePixels bs).pixbuf, c.1 < s.pixbufBytes :=
  ⟨memStoreBytes_wf _ _ _ h, memStoreBytes_inside s.pixbufBytes_pos _ _ hi⟩

/-- Reset leaves the canonical form. -/
theorem State.reset_pixbuf_wf : (State.reset.pixbuf : Memory).wf := List.Pairwise.nil

end Sys2Proof.Machine
end

