-- ==== Sys2Proof/Laws/Ops.lean ====
section
/-! SUPPORT. Everything each shared operation can do, said once: what the flags become, what a refused or accepted command
leaves, what a transport step is, and what one step of the machine can be. -/

namespace Sys2Proof.Machine

/-! ### Flags -/

@[simp] theorem busy_eq_true (s : State) : busy s = true ↔ s.seqState = .frame := by simp [busy]

@[simp] theorem busy_eq_false (s : State) : busy s = false ↔ s.seqState = .idle := by
  cases h : s.seqState <;> simp [busy, h]

/-- Raising an error sets its own bit and no other (60_exceptions.md R249). -/
theorem State.raise_spec (e : BlockError) (s : State) :
    (s.raise e).status =
      match e with
      | .txFail => { s.status with txFail := true }
      | .lenErr => { s.status with lenErr := true }
      | .busyErr => { s.status with busyErr := true }
      | .cmdErr => { s.status with cmdErr := true } := by
  cases e <;> rfl

/-- W1C never sets a bit (10_state.md R30). -/
theorem StatusFlags.w1c_le (d : Word) (f : StatusFlags) :
    ((f.w1c d).done → f.done) ∧ ((f.w1c d).txFail → f.txFail) ∧ ((f.w1c d).lenErr → f.lenErr) ∧
      ((f.w1c d).busyErr → f.busyErr) ∧ ((f.w1c d).cmdErr → f.cmdErr) := by
  simp only [StatusFlags.w1c, Bool.and_eq_true]
  exact ⟨And.left, And.left, And.left, And.left, And.left⟩

/-- A host write that needs the block idle: BUSY_ERR, or the write's own effect. -/
theorem State.unlessBusy_cases (f : State → State) (s : State) :
    (s.seqState = .frame ∧ s.unlessBusy f = s.raise .busyErr) ∨ (s.seqState = .idle ∧ s.unlessBusy f = f s) := by
  cases h : s.seqState
  · exact .inr ⟨rfl, by simp [State.unlessBusy, busy, h]⟩
  · exact .inl ⟨rfl, by simp [State.unlessBusy, busy, h]⟩

/-! ### Commands -/

/-- Everything a valid command can do (42_frame_encoder.md R160 to R164): it is refused busy, refused by the length check, or
starts the frame. -/
theorem runCommand_cases (c : FrameContext) (s : State) :
    (s.seqState = .frame ∧ runCommand c s = s.raise .busyErr) ∨
    (s.seqState = .idle ∧ s.bufLen.toNat < need c.rt c.n ∧ runCommand c s = (s.latch c).refuseLength) ∨
    (s.seqState = .idle ∧ need c.rt c.n ≤ s.bufLen.toNat ∧ runCommand c s = (s.latch c).startFrame) := by
  rcases State.unlessBusy_cases (acceptCommand c) s with ⟨h, hs⟩ | ⟨h, hs⟩
  · exact .inl ⟨h, hs⟩
  · by_cases hn : need c.rt c.n > s.bufLen.toNat
    · exact .inr (.inl ⟨h, hn, by rw [runCommand, hs]; simp [acceptCommand, hn]⟩)
    · exact .inr (.inr ⟨h, Nat.not_lt.1 hn, by rw [runCommand, hs]; simp [acceptCommand, hn]⟩)

/-! ### The transport -/

/-- Everything a transport input can do (10_state.md R45; 42_frame_encoder.md R169, R173, R174): nothing, a failed handshake
or an accepted byte. -/
theorem transportStep_cases (r e : Bool) (s : State) :
    ((s.seqState = .idle ∨ r = false) ∧ transportStep r e s = s) ∨
    (s.seqState = .frame ∧ r = true ∧ e = true ∧ transportStep r e s = s.failFrame) ∨
    (s.seqState = .frame ∧ r = true ∧ e = false ∧ transportStep r e s = acceptByte s) := by
  cases h : s.seqState <;> cases r <;> cases e <;> simp [transportStep, txValid, busy, h]

/-- Everything an accepted byte does: the offered byte is sent, a body byte is folded, and the last checksum byte completes
the frame (42_frame_encoder.md R169, R170, R172). -/
theorem acceptByte_cases (s : State) :
    (s.seqPos < s.frameBody.length ∧
      acceptByte s = (s.foldFrame (byteAt s s.seqPos)).sendByte (byteAt s s.seqPos)) ∨
    (s.frameBody.length ≤ s.seqPos ∧ s.seqPos + 1 ≠ s.frameBody.length + 4 ∧
      acceptByte s = s.sendByte (byteAt s s.seqPos)) ∨
    (s.seqPos + 1 = s.frameBody.length + 4 ∧ acceptByte s = (s.sendByte (byteAt s s.seqPos)).complete) := by
  by_cases h : s.seqPos < s.frameBody.length
  · exact .inl ⟨h, by simp [acceptByte, sendOffered, h]; omega⟩
  · by_cases hl : s.seqPos + 1 = s.frameBody.length + 4
    · exact .inr (.inr ⟨hl, by simp [acceptByte, sendOffered, h, hl]⟩)
    · exact .inr (.inl ⟨Nat.not_lt.1 h, hl, by simp only [acceptByte, sendOffered, if_neg h, if_neg hl]⟩)

/-- The offered byte while the body lasts is the body's (42_frame_encoder.md R168). -/
theorem byteAt_body (s : State) {p : Nat} (h : p < s.frameBody.length) : byteAt s p = s.frameBody[p] := by
  simp [byteAt, List.getElem?_eq_getElem h]

/-- The offered byte after the body is a byte of the complemented FRAME_CRC (42_frame_encoder.md R168). -/
theorem byteAt_checksum (s : State) {p : Nat} (h : s.frameBody.length ≤ p) :
    byteAt s p = byteOf (~~~ s.frameCrc) (p - s.frameBody.length) := by
  simp [byteAt, List.getElem?_eq_none h]

/-! ### One step -/

/-- Everything one step can be (00_scope.md R15; 20_memory.md R70): the environment does nothing, a host access is refused, a
decoded instruction runs, a transport input, or RST. -/
theorem step_cases (s : State) :
    (s.inputs = [] ∧ step s = .next s) ∨
    (∃ a rest e, s.inputs = .host a :: rest ∧ decodeAccess a = .error e ∧ step s = .refused (refusalOf e)) ∨
    (∃ a rest i, s.inputs = .host a :: rest ∧ decodeAccess a = .ok i ∧ step s = exec i (s.setInputs rest)) ∨
    (∃ r e rest, s.inputs = .transport r e :: rest ∧ step s = .next (transportStep r e (s.setInputs rest))) ∨
    (∃ rest, s.inputs = .reset :: rest ∧ step s = .next (s.setInputs rest).resetBlock) := by
  unfold step
  match hs : s.inputs with
  | [] => exact .inl ⟨rfl, rfl⟩
  | .host a :: rest =>
    cases hd : decodeAccess a with
    | error e => exact .inr (.inl ⟨a, rest, e, rfl, hd, by simp [runInput, runHost, hd]⟩)
    | ok i => exact .inr (.inr (.inl ⟨a, rest, i, rfl, hd, by simp [runInput, runHost, hd]⟩))
  | .transport r e :: rest => exact .inr (.inr (.inr (.inl ⟨r, e, rest, rfl, rfl⟩)))
  | .reset :: rest => exact .inr (.inr (.inr (.inr ⟨rest, rfl, rfl⟩)))

/-- A run whose first step answers a next state is the rest of the run from there. -/
theorem run_next (M : Host.Core) {s t : M.State} (n : Nat) (h : M.step s = .next t) : M.run (n + 1) s = M.run n t := by
  simp only [Host.Core.run, h]

/-- A run of no steps is where it starts. -/
theorem run_zero (M : Host.Core) (s : M.State) : M.run 0 s = .next s := rfl

end Sys2Proof.Machine
end

