-- ==== Sys2Proof/Laws/PerInstr.lean ====
section
/-! SUPPORT. The family RowMatch, one lemma per constructor of Instr: the transaction of a well-formed instruction is one that
the instruction's own row of the opcode table covers (30_encoding.md R82). -/

namespace Sys2Proof.Laws

/-- A row of the opcode table with the instruction's mnemonic covers the instruction's transaction. -/
def RowMatch.Statement (i : Instr) : Prop :=
  i.wellFormed = true → ∃ r ∈ opcodeTable, r.mnemonic = i.mnemonic ∧ r.covers (encode i) = true

/-- A reserved offset in range has the range's offset bits. -/
theorem offsetIn_pattern {lo hi : Nat} {off : Byte} (m p : Byte) (h : offsetIn lo hi off = true)
    (hp : ∀ b : Byte, b.toNat % 4 = 0 → lo ≤ b.toNat → b.toNat ≤ hi → b &&& m = p) : off &&& m = p := by
  simp only [offsetIn, Bool.and_eq_true, decide_eq_true_eq] at h
  exact hp _ h.1.1 h.1.2 h.2

theorem RowMatch.rdId : RowMatch.Statement .rdId := fun _ =>
  ⟨⟨"RD_ID", 0x00000000000#41, 0x1FF00000000#41⟩, by decide, rfl, by decide⟩

theorem RowMatch.wrId (data : Word) : RowMatch.Statement (.wrId data) := fun _ =>
  ⟨⟨"WR_ID", 0x10000000000#41, 0x1FF00000000#41⟩, by decide, rfl, OpcodeRow.covers_fields
    (w := true) (wm := true) (o := 0x00#8) (om := 0xFF#8) (o0 := 0x00#8) (d := 0x00#32) (dm := 0x00#32) rfl (by decide) BitVec.and_zero⟩

theorem RowMatch.rdCmd : RowMatch.Statement .rdCmd := fun _ =>
  ⟨⟨"RD_CMD", 0x00400000000#41, 0x1FF00000000#41⟩, by decide, rfl, by decide⟩

theorem RowMatch.cmdSendChannel (data : Word) : RowMatch.Statement (.cmdSendChannel data) := fun h =>
  ⟨⟨"CMD_SEND_CHANNEL", 0x10400000001#41, 0x1FF000000FF#41⟩, by decide, rfl, OpcodeRow.covers_fields
    (w := true) (wm := true) (o := 0x04#8) (om := 0xFF#8) (o0 := 0x04#8) (d := 0x01#32) (dm := 0xFF#32) rfl (by decide) (opcodeIn_pattern 0xFF#8 0x01#8 h (by decide))⟩

theorem RowMatch.cmdCommit (data : Word) : RowMatch.Statement (.cmdCommit data) := fun h =>
  ⟨⟨"CMD_COMMIT", 0x10400000002#41, 0x1FF000000FF#41⟩, by decide, rfl, OpcodeRow.covers_fields
    (w := true) (wm := true) (o := 0x04#8) (om := 0xFF#8) (o0 := 0x04#8) (d := 0x02#32) (dm := 0xFF#32) rfl (by decide) (opcodeIn_pattern 0xFF#8 0x02#8 h (by decide))⟩

theorem RowMatch.cmdReserved00 (data : Word) : RowMatch.Statement (.cmdReserved00 data) := fun h =>
  ⟨⟨"CMD_RESERVED_00", 0x10400000000#41, 0x1FF000000FF#41⟩, by decide, rfl, OpcodeRow.covers_fields
    (w := true) (wm := true) (o := 0x04#8) (om := 0xFF#8) (o0 := 0x04#8) (d := 0x00#32) (dm := 0xFF#32) rfl (by decide) (opcodeIn_pattern 0xFF#8 0x00#8 h (by decide))⟩

theorem RowMatch.cmdReserved03 (data : Word) : RowMatch.Statement (.cmdReserved03 data) := fun h =>
  ⟨⟨"CMD_RESERVED_03", 0x10400000003#41, 0x1FF000000FF#41⟩, by decide, rfl, OpcodeRow.covers_fields
    (w := true) (wm := true) (o := 0x04#8) (om := 0xFF#8) (o0 := 0x04#8) (d := 0x03#32) (dm := 0xFF#32) rfl (by decide) (opcodeIn_pattern 0xFF#8 0x03#8 h (by decide))⟩

theorem RowMatch.cmdReserved0407 (data : Word) : RowMatch.Statement (.cmdReserved0407 data) := fun h =>
  ⟨⟨"CMD_RESERVED_04_07", 0x10400000004#41, 0x1FF000000FC#41⟩, by decide, rfl, OpcodeRow.covers_fields
    (w := true) (wm := true) (o := 0x04#8) (om := 0xFF#8) (o0 := 0x04#8) (d := 0x04#32) (dm := 0xFC#32) rfl (by decide) (opcodeIn_pattern 0xFC#8 0x04#8 h (by decide))⟩

theorem RowMatch.cmdReserved080F (data : Word) : RowMatch.Statement (.cmdReserved080F data) := fun h =>
  ⟨⟨"CMD_RESERVED_08_0F", 0x10400000008#41, 0x1FF000000F8#41⟩, by decide, rfl, OpcodeRow.covers_fields
    (w := true) (wm := true) (o := 0x04#8) (om := 0xFF#8) (o0 := 0x04#8) (d := 0x08#32) (dm := 0xF8#32) rfl (by decide) (opcodeIn_pattern 0xF8#8 0x08#8 h (by decide))⟩

theorem RowMatch.cmdReserved101F (data : Word) : RowMatch.Statement (.cmdReserved101F data) := fun h =>
  ⟨⟨"CMD_RESERVED_10_1F", 0x10400000010#41, 0x1FF000000F0#41⟩, by decide, rfl, OpcodeRow.covers_fields
    (w := true) (wm := true) (o := 0x04#8) (om := 0xFF#8) (o0 := 0x04#8) (d := 0x10#32) (dm := 0xF0#32) rfl (by decide) (opcodeIn_pattern 0xF0#8 0x10#8 h (by decide))⟩

theorem RowMatch.cmdReserved203F (data : Word) : RowMatch.Statement (.cmdReserved203F data) := fun h =>
  ⟨⟨"CMD_RESERVED_20_3F", 0x10400000020#41, 0x1FF000000E0#41⟩, by decide, rfl, OpcodeRow.covers_fields
    (w := true) (wm := true) (o := 0x04#8) (om := 0xFF#8) (o0 := 0x04#8) (d := 0x20#32) (dm := 0xE0#32) rfl (by decide) (opcodeIn_pattern 0xE0#8 0x20#8 h (by decide))⟩

theorem RowMatch.cmdReserved407F (data : Word) : RowMatch.Statement (.cmdReserved407F data) := fun h =>
  ⟨⟨"CMD_RESERVED_40_7F", 0x10400000040#41, 0x1FF000000C0#41⟩, by decide, rfl, OpcodeRow.covers_fields
    (w := true) (wm := true) (o := 0x04#8) (om := 0xFF#8) (o0 := 0x04#8) (d := 0x40#32) (dm := 0xC0#32) rfl (by decide) (opcodeIn_pattern 0xC0#8 0x40#8 h (by decide))⟩

theorem RowMatch.cmdReserved80FF (data : Word) : RowMatch.Statement (.cmdReserved80FF data) := fun h =>
  ⟨⟨"CMD_RESERVED_80_FF", 0x10400000080#41, 0x1FF00000080#41⟩, by decide, rfl, OpcodeRow.covers_fields
    (w := true) (wm := true) (o := 0x04#8) (om := 0xFF#8) (o0 := 0x04#8) (d := 0x80#32) (dm := 0x80#32) rfl (by decide) (opcodeIn_pattern 0x80#8 0x80#8 h (by decide))⟩

theorem RowMatch.rdStatus : RowMatch.Statement .rdStatus := fun _ =>
  ⟨⟨"RD_STATUS", 0x00800000000#41, 0x1FF00000000#41⟩, by decide, rfl, by decide⟩

theorem RowMatch.wrStatus (data : Word) : RowMatch.Statement (.wrStatus data) := fun _ =>
  ⟨⟨"WR_STATUS", 0x10800000000#41, 0x1FF00000000#41⟩, by decide, rfl, OpcodeRow.covers_fields
    (w := true) (wm := true) (o := 0x08#8) (om := 0xFF#8) (o0 := 0x08#8) (d := 0x00#32) (dm := 0x00#32) rfl (by decide) BitVec.and_zero⟩

theorem RowMatch.rdChannel : RowMatch.Statement .rdChannel := fun _ =>
  ⟨⟨"RD_CHANNEL", 0x00C00000000#41, 0x1FF00000000#41⟩, by decide, rfl, by decide⟩

theorem RowMatch.wrChannel (data : Word) : RowMatch.Statement (.wrChannel data) := fun _ =>
  ⟨⟨"WR_CHANNEL", 0x10C00000000#41, 0x1FF00000000#41⟩, by decide, rfl, OpcodeRow.covers_fields
    (w := true) (wm := true) (o := 0x0C#8) (om := 0xFF#8) (o0 := 0x0C#8) (d := 0x00#32) (dm := 0x00#32) rfl (by decide) BitVec.and_zero⟩

theorem RowMatch.rdRectype : RowMatch.Statement .rdRectype := fun _ =>
  ⟨⟨"RD_RECTYPE", 0x01000000000#41, 0x1FF00000000#41⟩, by decide, rfl, by decide⟩

theorem RowMatch.wrRectype (data : Word) : RowMatch.Statement (.wrRectype data) := fun _ =>
  ⟨⟨"WR_RECTYPE", 0x11000000000#41, 0x1FF00000000#41⟩, by decide, rfl, OpcodeRow.covers_fields
    (w := true) (wm := true) (o := 0x10#8) (om := 0xFF#8) (o0 := 0x10#8) (d := 0x00#32) (dm := 0x00#32) rfl (by decide) BitVec.and_zero⟩

theorem RowMatch.rdColorOrder : RowMatch.Statement .rdColorOrder := fun _ =>
  ⟨⟨"RD_COLOR_ORDER", 0x01400000000#41, 0x1FF00000000#41⟩, by decide, rfl, by decide⟩

theorem RowMatch.wrColorOrder (data : Word) : RowMatch.Statement (.wrColorOrder data) := fun _ =>
  ⟨⟨"WR_COLOR_ORDER", 0x11400000000#41, 0x1FF00000000#41⟩, by decide, rfl, OpcodeRow.covers_fields
    (w := true) (wm := true) (o := 0x14#8) (om := 0xFF#8) (o0 := 0x14#8) (d := 0x00#32) (dm := 0x00#32) rfl (by decide) BitVec.and_zero⟩

theorem RowMatch.rdPixelCount : RowMatch.Statement .rdPixelCount := fun _ =>
  ⟨⟨"RD_PIXEL_COUNT", 0x01800000000#41, 0x1FF00000000#41⟩, by decide, rfl, by decide⟩

theorem RowMatch.wrPixelCount (data : Word) : RowMatch.Statement (.wrPixelCount data) := fun _ =>
  ⟨⟨"WR_PIXEL_COUNT", 0x11800000000#41, 0x1FF00000000#41⟩, by decide, rfl, OpcodeRow.covers_fields
    (w := true) (wm := true) (o := 0x18#8) (om := 0xFF#8) (o0 := 0x18#8) (d := 0x00#32) (dm := 0x00#32) rfl (by decide) BitVec.and_zero⟩

theorem RowMatch.rdFrequency : RowMatch.Statement .rdFrequency := fun _ =>
  ⟨⟨"RD_FREQUENCY", 0x01C00000000#41, 0x1FF00000000#41⟩, by decide, rfl, by decide⟩

theorem RowMatch.wrFrequency (data : Word) : RowMatch.Statement (.wrFrequency data) := fun _ =>
  ⟨⟨"WR_FREQUENCY", 0x11C00000000#41, 0x1FF00000000#41⟩, by decide, rfl, OpcodeRow.covers_fields
    (w := true) (wm := true) (o := 0x1C#8) (om := 0xFF#8) (o0 := 0x1C#8) (d := 0x00#32) (dm := 0x00#32) rfl (by decide) BitVec.and_zero⟩

theorem RowMatch.rdBrightness : RowMatch.Statement .rdBrightness := fun _ =>
  ⟨⟨"RD_BRIGHTNESS", 0x02000000000#41, 0x1FF00000000#41⟩, by decide, rfl, by decide⟩

theorem RowMatch.wrBrightness (data : Word) : RowMatch.Statement (.wrBrightness data) := fun _ =>
  ⟨⟨"WR_BRIGHTNESS", 0x12000000000#41, 0x1FF00000000#41⟩, by decide, rfl, OpcodeRow.covers_fields
    (w := true) (wm := true) (o := 0x20#8) (om := 0xFF#8) (o0 := 0x20#8) (d := 0x00#32) (dm := 0x00#32) rfl (by decide) BitVec.and_zero⟩

theorem RowMatch.rdBufLen : RowMatch.Statement .rdBufLen := fun _ =>
  ⟨⟨"RD_BUF_LEN", 0x02400000000#41, 0x1FF00000000#41⟩, by decide, rfl, by decide⟩

theorem RowMatch.wrBufLen (data : Word) : RowMatch.Statement (.wrBufLen data) := fun _ =>
  ⟨⟨"WR_BUF_LEN", 0x12400000000#41, 0x1FF00000000#41⟩, by decide, rfl, OpcodeRow.covers_fields
    (w := true) (wm := true) (o := 0x24#8) (om := 0xFF#8) (o0 := 0x24#8) (d := 0x00#32) (dm := 0x00#32) rfl (by decide) BitVec.and_zero⟩

theorem RowMatch.rdPbAddr : RowMatch.Statement .rdPbAddr := fun _ =>
  ⟨⟨"RD_PB_ADDR", 0x02800000000#41, 0x1FF00000000#41⟩, by decide, rfl, by decide⟩

theorem RowMatch.wrPbAddr (data : Word) : RowMatch.Statement (.wrPbAddr data) := fun _ =>
  ⟨⟨"WR_PB_ADDR", 0x12800000000#41, 0x1FF00000000#41⟩, by decide, rfl, OpcodeRow.covers_fields
    (w := true) (wm := true) (o := 0x28#8) (om := 0xFF#8) (o0 := 0x28#8) (d := 0x00#32) (dm := 0x00#32) rfl (by decide) BitVec.and_zero⟩

theorem RowMatch.rdPbData : RowMatch.Statement .rdPbData := fun _ =>
  ⟨⟨"RD_PB_DATA", 0x02C00000000#41, 0x1FF00000000#41⟩, by decide, rfl, by decide⟩

theorem RowMatch.wrPbData (data : Word) : RowMatch.Statement (.wrPbData data) := fun _ =>
  ⟨⟨"WR_PB_DATA", 0x12C00000000#41, 0x1FF00000000#41⟩, by decide, rfl, OpcodeRow.covers_fields
    (w := true) (wm := true) (o := 0x2C#8) (om := 0xFF#8) (o0 := 0x2C#8) (d := 0x00#32) (dm := 0x00#32) rfl (by decide) BitVec.and_zero⟩

theorem RowMatch.rdPbData8 : RowMatch.Statement .rdPbData8 := fun _ =>
  ⟨⟨"RD_PB_DATA8", 0x03000000000#41, 0x1FF00000000#41⟩, by decide, rfl, by decide⟩

theorem RowMatch.wrPbData8 (data : Word) : RowMatch.Statement (.wrPbData8 data) := fun _ =>
  ⟨⟨"WR_PB_DATA8", 0x13000000000#41, 0x1FF00000000#41⟩, by decide, rfl, OpcodeRow.covers_fields
    (w := true) (wm := true) (o := 0x30#8) (om := 0xFF#8) (o0 := 0x30#8) (d := 0x00#32) (dm := 0x00#32) rfl (by decide) BitVec.and_zero⟩

theorem RowMatch.rdCrcInit : RowMatch.Statement .rdCrcInit := fun _ =>
  ⟨⟨"RD_CRC_INIT", 0x03400000000#41, 0x1FF00000000#41⟩, by decide, rfl, by decide⟩

theorem RowMatch.wrCrcInit (data : Word) : RowMatch.Statement (.wrCrcInit data) := fun _ =>
  ⟨⟨"WR_CRC_INIT", 0x13400000000#41, 0x1FF00000000#41⟩, by decide, rfl, OpcodeRow.covers_fields
    (w := true) (wm := true) (o := 0x34#8) (om := 0xFF#8) (o0 := 0x34#8) (d := 0x00#32) (dm := 0x00#32) rfl (by decide) BitVec.and_zero⟩

theorem RowMatch.rdCrcData : RowMatch.Statement .rdCrcData := fun _ =>
  ⟨⟨"RD_CRC_DATA", 0x03800000000#41, 0x1FF00000000#41⟩, by decide, rfl, by decide⟩

theorem RowMatch.wrCrcData (data : Word) : RowMatch.Statement (.wrCrcData data) := fun _ =>
  ⟨⟨"WR_CRC_DATA", 0x13800000000#41, 0x1FF00000000#41⟩, by decide, rfl, OpcodeRow.covers_fields
    (w := true) (wm := true) (o := 0x38#8) (om := 0xFF#8) (o0 := 0x38#8) (d := 0x00#32) (dm := 0x00#32) rfl (by decide) BitVec.and_zero⟩

theorem RowMatch.rdCrcResult : RowMatch.Statement .rdCrcResult := fun _ =>
  ⟨⟨"RD_CRC_RESULT", 0x03C00000000#41, 0x1FF00000000#41⟩, by decide, rfl, by decide⟩

theorem RowMatch.wrCrcResult (data : Word) : RowMatch.Statement (.wrCrcResult data) := fun _ =>
  ⟨⟨"WR_CRC_RESULT", 0x13C00000000#41, 0x1FF00000000#41⟩, by decide, rfl, OpcodeRow.covers_fields
    (w := true) (wm := true) (o := 0x3C#8) (om := 0xFF#8) (o0 := 0x3C#8) (d := 0x00#32) (dm := 0x00#32) rfl (by decide) BitVec.and_zero⟩

theorem RowMatch.rdCrcState : RowMatch.Statement .rdCrcState := fun _ =>
  ⟨⟨"RD_CRC_STATE", 0x04000000000#41, 0x1FF00000000#41⟩, by decide, rfl, by decide⟩

theorem RowMatch.wrCrcState (data : Word) : RowMatch.Statement (.wrCrcState data) := fun _ =>
  ⟨⟨"WR_CRC_STATE", 0x14000000000#41, 0x1FF00000000#41⟩, by decide, rfl, OpcodeRow.covers_fields
    (w := true) (wm := true) (o := 0x40#8) (om := 0xFF#8) (o0 := 0x40#8) (d := 0x00#32) (dm := 0x00#32) rfl (by decide) BitVec.and_zero⟩

theorem RowMatch.rdLastCrc : RowMatch.Statement .rdLastCrc := fun _ =>
  ⟨⟨"RD_LAST_CRC", 0x04400000000#41, 0x1FF00000000#41⟩, by decide, rfl, by decide⟩

theorem RowMatch.wrLastCrc (data : Word) : RowMatch.Statement (.wrLastCrc data) := fun _ =>
  ⟨⟨"WR_LAST_CRC", 0x14400000000#41, 0x1FF00000000#41⟩, by decide, rfl, OpcodeRow.covers_fields
    (w := true) (wm := true) (o := 0x44#8) (om := 0xFF#8) (o0 := 0x44#8) (d := 0x00#32) (dm := 0x00#32) rfl (by decide) BitVec.and_zero⟩

theorem RowMatch.rdTxCount : RowMatch.Statement .rdTxCount := fun _ =>
  ⟨⟨"RD_TX_COUNT", 0x04800000000#41, 0x1FF00000000#41⟩, by decide, rfl, by decide⟩

theorem RowMatch.wrTxCount (data : Word) : RowMatch.Statement (.wrTxCount data) := fun _ =>
  ⟨⟨"WR_TX_COUNT", 0x14800000000#41, 0x1FF00000000#41⟩, by decide, rfl, OpcodeRow.covers_fields
    (w := true) (wm := true) (o := 0x48#8) (om := 0xFF#8) (o0 := 0x48#8) (d := 0x00#32) (dm := 0x00#32) rfl (by decide) BitVec.and_zero⟩

theorem RowMatch.rdReserved4C : RowMatch.Statement .rdReserved4C := fun _ =>
  ⟨⟨"RD_RESERVED_4C", 0x04C00000000#41, 0x1FF00000000#41⟩, by decide, rfl, by decide⟩

theorem RowMatch.rdReserved505C (off : Byte) : RowMatch.Statement (.rdReserved505C off) := fun h =>
  ⟨⟨"RD_RESERVED_50_5C", 0x05000000000#41, 0x1F300000000#41⟩, by decide, rfl, OpcodeRow.covers_fields
    (w := false) (wm := true) (o := 0x50#8) (om := 0xF3#8) (o0 := off) (d := 0x00#32) (dm := 0x00#32) rfl (offsetIn_pattern 0xF3#8 0x50#8 h (by decide)) BitVec.and_zero⟩

theorem RowMatch.rdReserved607C (off : Byte) : RowMatch.Statement (.rdReserved607C off) := fun h =>
  ⟨⟨"RD_RESERVED_60_7C", 0x06000000000#41, 0x1E300000000#41⟩, by decide, rfl, OpcodeRow.covers_fields
    (w := false) (wm := true) (o := 0x60#8) (om := 0xE3#8) (o0 := off) (d := 0x00#32) (dm := 0x00#32) rfl (offsetIn_pattern 0xE3#8 0x60#8 h (by decide)) BitVec.and_zero⟩

theorem RowMatch.rdReserved80FC (off : Byte) : RowMatch.Statement (.rdReserved80FC off) := fun h =>
  ⟨⟨"RD_RESERVED_80_FC", 0x08000000000#41, 0x18300000000#41⟩, by decide, rfl, OpcodeRow.covers_fields
    (w := false) (wm := true) (o := 0x80#8) (om := 0x83#8) (o0 := off) (d := 0x00#32) (dm := 0x00#32) rfl (offsetIn_pattern 0x83#8 0x80#8 h (by decide)) BitVec.and_zero⟩

theorem RowMatch.wrReserved4C (data : Word) : RowMatch.Statement (.wrReserved4C data) := fun _ =>
  ⟨⟨"WR_RESERVED_4C", 0x14C00000000#41, 0x1FF00000000#41⟩, by decide, rfl, OpcodeRow.covers_fields
    (w := true) (wm := true) (o := 0x4C#8) (om := 0xFF#8) (o0 := 0x4C#8) (d := 0x00#32) (dm := 0x00#32) rfl (by decide) BitVec.and_zero⟩

theorem RowMatch.wrReserved505C (off : Byte) (data : Word) : RowMatch.Statement (.wrReserved505C off data) := fun h =>
  ⟨⟨"WR_RESERVED_50_5C", 0x15000000000#41, 0x1F300000000#41⟩, by decide, rfl, OpcodeRow.covers_fields
    (w := true) (wm := true) (o := 0x50#8) (om := 0xF3#8) (o0 := off) (d := 0x00#32) (dm := 0x00#32) rfl (offsetIn_pattern 0xF3#8 0x50#8 h (by decide)) BitVec.and_zero⟩

theorem RowMatch.wrReserved607C (off : Byte) (data : Word) : RowMatch.Statement (.wrReserved607C off data) := fun h =>
  ⟨⟨"WR_RESERVED_60_7C", 0x16000000000#41, 0x1E300000000#41⟩, by decide, rfl, OpcodeRow.covers_fields
    (w := true) (wm := true) (o := 0x60#8) (om := 0xE3#8) (o0 := off) (d := 0x00#32) (dm := 0x00#32) rfl (offsetIn_pattern 0xE3#8 0x60#8 h (by decide)) BitVec.and_zero⟩

theorem RowMatch.wrReserved80FC (off : Byte) (data : Word) : RowMatch.Statement (.wrReserved80FC off data) := fun h =>
  ⟨⟨"WR_RESERVED_80_FC", 0x18000000000#41, 0x18300000000#41⟩, by decide, rfl, OpcodeRow.covers_fields
    (w := true) (wm := true) (o := 0x80#8) (om := 0x83#8) (o0 := off) (d := 0x00#32) (dm := 0x00#32) rfl (offsetIn_pattern 0x83#8 0x80#8 h (by decide)) BitVec.and_zero⟩

end Sys2Proof.Laws
end

