-- ==== Sys2Proof/Tests/Slice0.lean ====
section
/-! SUPPORT. The model's own tests: what well-formedness refuses, every constructor's decoding from a word written out by hand
from 30_encoding.md R80 to R84 and 10_state.md R21, single steps with the results of 95_test_vectors.md, and for every
statement with hypotheses a concrete state and operands that meet them. -/

namespace Sys2Proof.Tests

open Sys2Proof Sys2Proof.Machine

/-! ### Well-formedness refuses -/

/-- A command instruction whose DATA[7:0] is not its own OPCODE (R83, R84). -/
theorem test_wellFormed_command_opcode :
    (Instr.cmdSendChannel 0x102).wellFormed = false ∧ (Instr.cmdCommit 0x01).wellFormed = false := by decide

/-- A single reserved OPCODE. -/
theorem test_wellFormed_reserved_opcode :
    (Instr.cmdReserved00 0x01).wellFormed = false ∧ (Instr.cmdReserved03 0x02).wellFormed = false := by decide

/-- A range of reserved OPCODEs, just below and just above it. -/
theorem test_wellFormed_reserved_opcode_ranges :
    (Instr.cmdReserved0407 0x03).wellFormed = false ∧ (Instr.cmdReserved0407 0x08).wellFormed = false ∧
    (Instr.cmdReserved080F 0x07).wellFormed = false ∧ (Instr.cmdReserved080F 0x10).wellFormed = false ∧
    (Instr.cmdReserved101F 0x0F).wellFormed = false ∧ (Instr.cmdReserved101F 0x20).wellFormed = false ∧
    (Instr.cmdReserved203F 0x1F).wellFormed = false ∧ (Instr.cmdReserved203F 0x40).wellFormed = false ∧
    (Instr.cmdReserved407F 0x3F).wellFormed = false ∧ (Instr.cmdReserved407F 0x80).wellFormed = false ∧
    (Instr.cmdReserved80FF 0x7F).wellFormed = false ∧ (Instr.cmdReserved80FF 0x100).wellFormed = false := by decide

/-- A reserved offset outside its row's range. -/
theorem test_wellFormed_reserved_offset_ranges :
    (Instr.rdReserved505C 0x4C).wellFormed = false ∧ (Instr.rdReserved505C 0x60).wellFormed = false ∧
    (Instr.rdReserved607C 0x5C).wellFormed = false ∧ (Instr.rdReserved607C 0x80).wellFormed = false ∧
    (Instr.rdReserved80FC 0x7C).wellFormed = false ∧ (Instr.wrReserved505C 0x60 0).wellFormed = false ∧
    (Instr.wrReserved607C 0x80 0).wellFormed = false ∧ (Instr.wrReserved80FC 0x7C 0).wellFormed = false := by decide

/-- A reserved offset that is not word-aligned (R81). -/
theorem test_wellFormed_reserved_offset_alignment :
    (Instr.rdReserved505C 0x51).wellFormed = false ∧ (Instr.rdReserved607C 0x62).wellFormed = false ∧
    (Instr.rdReserved80FC 0xFF).wellFormed = false ∧ (Instr.wrReserved505C 0x5D 0).wellFormed = false ∧
    (Instr.wrReserved607C 0x7E 0).wellFormed = false ∧ (Instr.wrReserved80FC 0x81 0).wellFormed = false := by decide

/-! ### Decoding: W in bit 40, OFF in bits 39 to 32, DATA in bits 31 to 0 (R80) -/

/-- The identification register and the commands. -/
theorem test_decode_command_family :
    decode 0x00000000000#41 = .ok .rdId ∧ decode 0x10000000005#41 = .ok (.wrId 5) ∧
    decode 0x00400000000#41 = .ok .rdCmd ∧
    decode 0x10400000001#41 = .ok (.cmdSendChannel 0x01) ∧ decode 0x104FFFFFF02#41 = .ok (.cmdCommit 0xFFFFFF02) ∧
    decode 0x10400000100#41 = .ok (.cmdReserved00 0x100) ∧ decode 0x10400000003#41 = .ok (.cmdReserved03 0x03) ∧
    decode 0x10400000007#41 = .ok (.cmdReserved0407 0x07) ∧ decode 0x10400000008#41 = .ok (.cmdReserved080F 0x08) ∧
    decode 0x1040000001F#41 = .ok (.cmdReserved101F 0x1F) ∧ decode 0x10400000020#41 = .ok (.cmdReserved203F 0x20) ∧
    decode 0x1040000007F#41 = .ok (.cmdReserved407F 0x7F) ∧ decode 0x10400000080#41 = .ok (.cmdReserved80FF 0x80) := by
  decide

/-- STATUS and the argument registers. -/
theorem test_decode_argument_family :
    decode 0x00800000000#41 = .ok .rdStatus ∧ decode 0x1080000003E#41 = .ok (.wrStatus 0x3E) ∧
    decode 0x00C00000000#41 = .ok .rdChannel ∧ decode 0x10C00000003#41 = .ok (.wrChannel 3) ∧
    decode 0x01000000000#41 = .ok .rdRectype ∧ decode 0x11000000001#41 = .ok (.wrRectype 1) ∧
    decode 0x01400000000#41 = .ok .rdColorOrder ∧ decode 0x11400000024#41 = .ok (.wrColorOrder 0x24) ∧
    decode 0x01800000000#41 = .ok .rdPixelCount ∧ decode 0x118000001F4#41 = .ok (.wrPixelCount 500) ∧
    decode 0x01C00000000#41 = .ok .rdFrequency ∧ decode 0x11C007A1200#41 = .ok (.wrFrequency 8000000) ∧
    decode 0x02000000000#41 = .ok .rdBrightness ∧ decode 0x1200000002A#41 = .ok (.wrBrightness 0x2A) := by decide

/-- The pixel-buffer registers. -/
theorem test_decode_buffer_family :
    decode 0x02400000000#41 = .ok .rdBufLen ∧ decode 0x12400001000#41 = .ok (.wrBufLen 0x1000) ∧
    decode 0x02800000000#41 = .ok .rdPbAddr ∧ decode 0x128000001FE#41 = .ok (.wrPbAddr 0x1FE) ∧
    decode 0x02C00000000#41 = .ok .rdPbData ∧ decode 0x12CDDCCBBAA#41 = .ok (.wrPbData 0xDDCCBBAA) ∧
    decode 0x03000000000#41 = .ok .rdPbData8 ∧ decode 0x130000000FF#41 = .ok (.wrPbData8 0xFF) := by decide

/-- The checksum engine and the observation registers. -/
theorem test_decode_crc_family :
    decode 0x03400000000#41 = .ok .rdCrcInit ∧ decode 0x13412345678#41 = .ok (.wrCrcInit 0x12345678) ∧
    decode 0x03800000000#41 = .ok .rdCrcData ∧ decode 0x13800000031#41 = .ok (.wrCrcData 0x31) ∧
    decode 0x03C00000000#41 = .ok .rdCrcResult ∧ decode 0x13C00000001#41 = .ok (.wrCrcResult 1) ∧
    decode 0x04000000000#41 = .ok .rdCrcState ∧ decode 0x14000000001#41 = .ok (.wrCrcState 1) ∧
    decode 0x04400000000#41 = .ok .rdLastCrc ∧ decode 0x14400000001#41 = .ok (.wrLastCrc 1) ∧
    decode 0x04800000000#41 = .ok .rdTxCount ∧ decode 0x14800000001#41 = .ok (.wrTxCount 1) := by decide

/-- The reserved offsets. -/
theorem test_decode_reserved_family :
    decode 0x04C00000000#41 = .ok .rdReserved4C ∧ decode 0x14C00000007#41 = .ok (.wrReserved4C 7) ∧
    decode 0x05C00000000#41 = .ok (.rdReserved505C 0x5C) ∧ decode 0x15000000007#41 = .ok (.wrReserved505C 0x50 7) ∧
    decode 0x06000000000#41 = .ok (.rdReserved607C 0x60) ∧ decode 0x17C00000007#41 = .ok (.wrReserved607C 0x7C 7) ∧
    decode 0x0FC00000000#41 = .ok (.rdReserved80FC 0xFC) ∧ decode 0x18000000007#41 = .ok (.wrReserved80FC 0x80 7) := by
  decide

/-- What the port does not carry: OFF[1:0] other than 00, and another width than 32 bits (20_memory.md R66). -/
theorem test_decode_refuses :
    decode 0x00100000000#41 = .error (.misaligned 0x01) ∧ decode 0x10E00000000#41 = .error (.misaligned 0x0E) ∧
    decodeAccess ⟨8, 0x00000000000#41⟩ = .error (.width 8) := by decide

/-- The opcode table's words reach the decoder unchanged. -/
theorem test_decodeTableWord :
    decodeTableWord 48 0x10400000002 = some (.cmdCommit 2) ∧ decodeTableWord 41 0x04800000000 = some .rdTxCount := by
  decide

/-! ### Single instructions and single steps, with the results of 95_test_vectors.md -/

/-- The field `f` of the state an instruction leaves, if it completes. -/
def field {α : Type} (o : Host.Outcome State Fault Refusal) (f : State → α) : Option α :=
  match o with
  | .next s => some (f s)
  | .fault _ => none
  | .refused _ => none

/-- A machine with a pixel buffer of 256 bytes (PIXBUF_AW = 8), as in program P5. -/
def small : State := { State.reset with config := { pixbufAw := 8 }, pbAddr := 0xFE }

/-- A commit frame in progress, nothing sent. -/
def committing : State := { State.reset with seqState := .frame, fc := commitContext }

/-- The same, all but the last of its ten bytes sent; FRAME_CRC is the complement of its checksum 0xDF81389B (L1.3). -/
def lastByteLeft : State :=
  { committing with
    seqPos := 9, txCount := 9, frameCrc := ~~~0xDF81389B#32
    wire := [0x55, 0x50, 0x58, 0x4C, 0xFF, 0x02, 0x9B, 0x38, 0x81] }

/-- The argument registers and the buffer of L1.5, ready to send. -/
def loaded : State :=
  { State.reset with
    channel := 3, rectype := 1, colorOrder := 0x24, pixelCount := 2, bufLen := 6
    pixbuf := [(0, 0xFF), (1, 0x00), (2, 0x00), (3, 0x00), (4, 0xFF), (5, 0x00)] }

/-- `s` with `e` the next thing the environment does. -/
def withInput (e : Input) (s : State) : State := { s with inputs := [e] }

/-- L2.9, `RD ID`. -/
theorem test_rdId : field (exec .rdId State.reset) State.rdataLog = some [0x4C585055] := by decide

/-- L2.9: fields of DATA are taken and the rest discarded. -/
theorem test_argument_writes :
    field (exec (.wrChannel 0x1FF) State.reset) State.channel = some 0xFF ∧
    field (exec (.wrRectype 0xABCD) State.reset) State.rectype = some 0xCD ∧
    field (exec (.wrColorOrder 0x124) State.reset) State.colorOrder = some 0x24 ∧
    field (exec (.wrPixelCount 0x10005) State.reset) State.pixelCount = some 5 ∧
    field (exec (.wrFrequency 0xDEADBEEF) State.reset) State.frequency = some 0xDEADBEEF ∧
    field (exec (.wrBrightness 0x3F) State.reset) State.brightness = some 0x3F := by decide

/-- The argument registers read as written (R205 to R215). -/
theorem test_argument_reads :
    field (exec .rdChannel loaded) State.rdataLog = some [3] ∧ field (exec .rdRectype loaded) State.rdataLog = some [1] ∧
    field (exec .rdColorOrder loaded) State.rdataLog = some [0x24] ∧
    field (exec .rdPixelCount loaded) State.rdataLog = some [2] ∧
    field (exec .rdFrequency { loaded with frequency := 0x7A1200 }) State.rdataLog = some [0x7A1200] ∧
    field (exec .rdBrightness { loaded with brightness := 0x3F }) State.rdataLog = some [0x3F] ∧
    field (exec .rdBufLen loaded) State.rdataLog = some [6] ∧
    field (exec .rdPbAddr small) State.rdataLog = some [0xFE] := by decide

/-- L2.9: BUF_LEN saturates at PIXBUF_BYTES and PB_ADDR wraps. -/
theorem test_warl :
    field (exec (.wrBufLen 0xFFFFFFFF) State.reset) State.bufLen = some 0x40000 ∧
    field (exec (.wrBufLen 0x1000) small) State.bufLen = some 0x100 ∧
    field (exec (.wrPbAddr 0x1FE) small) State.pbAddr = some 0xFE := by decide

/-- Program P5, step 5: a word written across the end of the buffer. -/
theorem test_wrPbData_wraps :
    field (exec (.wrPbData 0xDDCCBBAA) small) State.pixbuf =
      some [(0x00, 0xCC), (0x01, 0xDD), (0xFE, 0xAA), (0xFF, 0xBB)] ∧
    field (exec (.wrPbData 0xDDCCBBAA) small) State.pbAddr = some 0x02 := by decide

/-- Program P5, step 8: the word read back across the end. -/
theorem test_rdPbData_wraps :
    field (exec .rdPbData { small with pixbuf := [(0x00, 0xCC), (0x01, 0xDD), (0xFE, 0xAA), (0xFF, 0xBB)] }) State.rdataLog =
      some [0xDDCCBBAA] := by decide

/-- L2.9: one byte written, and PB_ADDR advanced by one. -/
theorem test_wrPbData8 :
    field (exec (.wrPbData8 0x1FF) State.reset) State.pixbuf = some [(0, 0xFF)] ∧
    field (exec (.wrPbData8 0x1FF) State.reset) State.pbAddr = some 1 := by decide

/-- Program P5, step 10: one byte read. -/
theorem test_rdPbData8 : field (exec .rdPbData8 { loaded with pbAddr := 4 }) State.rdataLog = some [0xFF] := by decide

/-- L2.8: STATUS is write-one-to-clear, and BUSY cannot be cleared. -/
theorem test_wrStatus :
    field (exec (.wrStatus 0x10) { State.reset with status := ⟨true, false, false, true, true⟩ }) statusWord = some 0x22 ∧
    field (exec (.wrStatus 0x01) committing) statusWord = some 0x01 := by decide

/-- Program P4, step 16: STATUS after a transport failure and both sticky errors. -/
theorem test_rdStatus :
    field (exec .rdStatus { State.reset with status := ⟨true, true, false, true, true⟩ }) State.rdataLog = some [0x36] := by
  decide

/-- L2.5 and program P1: the checksum engine. -/
theorem test_crc_engine :
    field (exec (.wrCrcInit 0x12345678) { State.reset with crcState := 5 }) State.crcState = some 0xFFFFFFFF ∧
    field (exec (.wrCrcData 0x31) State.reset) State.crcState = some 0x7C231048 ∧
    field (exec .rdCrcResult { State.reset with crcState := 0x340BC6D9 }) State.rdataLog = some [0xCBF43926] ∧
    field (exec .rdCrcState { State.reset with crcState := 0x340BC6D9 }) State.rdataLog = some [0x340BC6D9] := by decide

/-- L2.2: the low nibble first. -/
theorem test_fold : fold 0xFFFFFFFF 0x01 = 0x5AFA20E4 ∧ fold 0x12345678 0x9A = 0x4E16B702 := by decide

/-- L2.8: what each command does to STATUS, idle. -/
theorem test_commands_idle :
    field (exec (.cmdSendChannel 1) loaded) statusWord = some 0x01 ∧
    field (exec (.cmdSendChannel 1) { loaded with bufLen := 5 }) statusWord = some 0x0A ∧
    field (exec (.cmdSendChannel 1) { loaded with rectype := 3 }) statusWord = some 0x01 ∧
    field (exec (.cmdSendChannel 1) { loaded with rectype := 4, pixelCount := 65535, bufLen := 0 }) statusWord = some 0x01 ∧
    field (exec (.cmdReserved00 0x100) State.reset) statusWord = some 0x20 := by decide

/-- L2.8: what each command and a pixel write do to STATUS, busy. -/
theorem test_commands_busy :
    field (exec (.cmdCommit 2) committing) statusWord = some 0x11 ∧
    field (exec (.cmdReserved0407 7) committing) statusWord = some 0x21 ∧
    field (exec (.wrPbData8 0xAA) committing) statusWord = some 0x11 ∧
    field (exec (.wrPbData8 0xAA) committing) State.pixbuf = some [] := by decide

/-- L2.8: an accepted command clears DONE and leaves CMD_ERR. -/
theorem test_commit_clears_done :
    field (exec (.cmdCommit 2) { State.reset with status := ⟨true, false, false, false, true⟩ }) statusWord = some 0x21 := by
  decide

/-- L2.9: reserved offsets. -/
theorem test_reserved :
    field (exec (.rdReserved80FC 0x80) State.reset) State.rdataLog = some [0] ∧
    field (exec (.wrReserved80FC 0xFC 0xFFFFFFFF) State.reset) id = some State.reset := by decide

/-- L1.5: a whole WS2812 frame, byte for byte. -/
theorem test_frame_ws2812 : frame (argumentContext loaded) loaded.pb =
    [0x55, 0x50, 0x58, 0x4C, 0x03, 0x01, 0x03, 0x24, 0x02, 0x00, 0xFF, 0x00, 0x00, 0x00, 0xFF, 0x00, 0xB1, 0x73, 0xB8,
     0x54] := by decide

/-- L1.4: a whole APA102_CLOCK frame; the pixel count 500 is suppressed. -/
theorem test_frame_clock : frame ⟨2, 4, 0x24, 500, 8000000, 0⟩ State.reset.pb =
    [0x55, 0x50, 0x58, 0x4C, 0x02, 0x04, 0x00, 0x12, 0x7A, 0x00, 0xDB, 0x72, 0xB7, 0xB9] := by decide

/-- L1.9: a whole frame of an unrecognised type. -/
theorem test_frame_unrecognised : frame ⟨5, 7, 0, 10, 0, 0⟩ State.reset.pb =
    [0x55, 0x50, 0x58, 0x4C, 0x05, 0x07, 0x23, 0xC5, 0xB8, 0x41] := by decide

set_option maxRecDepth 4000 in
/-- Program P3, step 16: an APA102_DATA frame; the brightness 0x2A is sent as 0x0A. -/
theorem test_frame_apa102 :
    frame ⟨1, 3, 0x06, 2, 0x7A1200, 0x2A⟩ (fun a => BitVec.ofNat 8 (a + 1)) =
      [0x55, 0x50, 0x58, 0x4C, 0x01, 0x03, 0x00, 0x12, 0x7A, 0x00, 0x06, 0x02, 0x00, 0x01, 0x02, 0x03, 0x0A, 0x04, 0x05,
       0x06, 0x0A, 0x7D, 0x32, 0xED, 0xBA] := by decide

/-- The last byte of a commit frame (L1.3): DONE, LAST_CRC, TX_COUNT. -/
theorem test_last_byte :
    field (step (withInput (.transport true false) lastByteLeft)) statusWord = some 0x02 ∧
    field (step (withInput (.transport true false) lastByteLeft)) State.lastCrc = some 0xDF81389B ∧
    field (step (withInput (.transport true false) lastByteLeft)) State.txCount = some 10 ∧
    field (step (withInput (.transport true false) lastByteLeft)) State.wire =
      some [0x55, 0x50, 0x58, 0x4C, 0xFF, 0x02, 0x9B, 0x38, 0x81, 0xDF] := by decide

/-- L2.8: a failed byte is not sent and not counted. -/
theorem test_transport_failure :
    field (step (withInput (.transport true true) lastByteLeft)) statusWord = some 0x06 ∧
    field (step (withInput (.transport true true) lastByteLeft)) State.txCount = some 9 ∧
    field (step (withInput (.transport true true) lastByteLeft)) State.lastCrc = some 0 := by decide

/-- Program P5, step 21: RST during a frame leaves the bytes sent and nothing on offer. -/
theorem test_reset_during_frame :
    field (step (withInput .reset lastByteLeft)) State.wire = some lastByteLeft.wire ∧
    field (step (withInput .reset lastByteLeft)) offered = some none ∧
    field (step (withInput .reset lastByteLeft)) statusWord = some 0 := by decide

/-- The first step after reset runs a placed word (program P2, step 1). -/
theorem test_withFetchWord : field (step (State.reset.withFetchWord 41 0x00000000000)) State.rdataLog = some [0x4C585055] := by
  decide

/-- 30_encoding.md R89: the words of SEND_CHANNEL in program P3, steps 5 to 10 and 14. -/
theorem test_asmSendChannel :
    asmSendChannel 0x01 0x03 0x06 0x0002 0x007A1200 0x2A 1 =
      [0x10C00000001, 0x11000000003, 0x11400000006, 0x11800000002, 0x11C007A1200, 0x1200000002A, 0x10400000001,
       0x00800000000] := by decide

/-! ### Witnesses: a concrete state and operands that meet all the hypotheses of a statement, clause by clause -/

/-- An access that writes `data` at offset `off`. -/
def hostWrite (off : Nat) (data : Word) : Input := .host (access (packWrite off data))

/-- A transport that accepts the byte on offer. -/
def accept : Input := .transport true false

/-- The frame of L1.5 in progress, its first byte sent. -/
def oneByteSent : State :=
  { loaded with
    seqState := .frame, fc := argumentContext loaded, seqPos := 1, txCount := 1, frameCrc := fold crcInit 0x55
    wire := [0x55] }

theorem test_witness_WriteOnlyAndReservedReadsReturnZero :
    (0x4C ≤ 0x4C ∧ 0x4C ≤ 0xFC ∧ 0x4C % 4 = 0) ∧ (0x4C ≤ 0xFC ∧ 0xFC ≤ 0xFC ∧ 0xFC % 4 = 0) := by decide

theorem test_witness_PixelBufferReads :
    (0 < 2 ^ loaded.config.pixbufAw) ∧ (6 < 2 ^ loaded.config.pixbufAw ∧ ∀ c ∈ loaded.pixbuf, c.1 ≠ 6) ∧
    (0x3FFFF < 2 ^ loaded.config.pixbufAw ∧ ∀ c ∈ loaded.pixbuf, c.1 ≠ 0x3FFFF) := by decide

theorem test_witness_ReadsChangeNoBlockState :
    isRead .rdId = true ∧ isRead .rdPbData = true ∧ isRead (.rdReserved80FC 0xFC) = true := by decide

theorem test_witness_ReadOnlyAndReservedWritesAreIgnored :
    (0x4C ≤ 0x4C ∧ 0x4C ≤ 0xFC ∧ 0x4C % 4 = 0) ∧ (0x4C ≤ 0xFC ∧ 0xFC ≤ 0xFC ∧ 0xFC % 4 = 0) := by decide

theorem test_witness_WarlRegistersStoreLegalValues :
    small.config.Legal ∧ State.reset.config.Legal ∧ ({ State.reset with config := { pixbufAw := 24 } } : State).config.Legal := by
  decide

theorem test_witness_ArgumentWritesAreIdempotent :
    (Instr.wrChannel 7 ∈ [Instr.wrChannel 7, .wrRectype 7, .wrColorOrder 7, .wrPixelCount 7, .wrFrequency 7,
      .wrBrightness 7, .wrBufLen 7, .wrPbAddr 7]) ∧ ∃ t, exec (.wrChannel 7) committing = .next t :=
  ⟨by decide, _, rfl⟩

theorem test_witness_PixelWordWrite :
    (small.config.Legal ∧ small.seqState = .idle ∧
      ∀ k < 4, 0x02 % 2 ^ small.config.pixbufAw ≠ (small.pbAddr.toNat + k) % 2 ^ small.config.pixbufAw) ∧
    (committing.config.Legal ∧ committing.seqState = .frame) := by decide

theorem test_witness_PixelByteWrite :
    (small.config.Legal ∧ small.seqState = .idle ∧
      0xFF % 2 ^ small.config.pixbufAw ≠ small.pbAddr.toNat % 2 ^ small.config.pixbufAw) ∧
    (committing.config.Legal ∧ committing.seqState = .frame) := by decide

theorem test_witness_ReservedOpcodesRaiseCmdErr :
    (Instr.cmdReserved80FF 0xFF ∈ [Instr.cmdReserved00 0xFF, .cmdReserved03 0xFF, .cmdReserved0407 0xFF,
      .cmdReserved080F 0xFF, .cmdReserved101F 0xFF, .cmdReserved203F 0xFF, .cmdReserved407F 0xFF,
      .cmdReserved80FF 0xFF]) ∧
    (∀ d ∈ [0x00#32, 0x100#32, 0x03#32, 0xFF#32], d.toNat % 256 ≠ 1 ∧ d.toNat % 256 ≠ 2) := ⟨by simp, by simp⟩

theorem test_witness_CommandWhileBusyIsDiscarded : committing.seqState = .frame := by decide

/-- The pixel data fills BUF_LEN exactly. -/
theorem test_witness_SendChannelStartsItsFrame :
    loaded.seqState = .idle ∧
    (if loaded.rectype = 1 ∨ loaded.rectype = 3 then 3 * loaded.pixelCount.toNat else 0) = loaded.bufLen.toNat := by decide

/-- The pixel data is one byte longer than BUF_LEN. -/
theorem test_witness_SendChannelLengthCheckRefuses :
    ({ loaded with bufLen := 5 } : State).seqState = .idle ∧
    (if loaded.rectype = 1 ∨ loaded.rectype = 3 then 3 * loaded.pixelCount.toNat else 0) =
      ({ loaded with bufLen := 5 } : State).bufLen.toNat + 1 := by decide

theorem test_witness_CommitStartsItsFrame : State.reset.seqState = .idle := by decide

theorem test_witness_OneErrorPerTransaction : ∃ t, exec (.cmdCommit 2) committing = .next t ∧
    committing.status.txFail = false ∧ committing.status.busyErr = false ∧ t.status.busyErr = true := ⟨_, rfl, by decide⟩

theorem test_witness_CrcEngineComputesCrc32 :
    ({ committing with inputs := [hostWrite 0x34 0, hostWrite 0x38 0x31, .host (access (packRead 0x3C)), .reset] } : State).inputs =
      .host (access (packWrite 0x34 0)) :: ([0x31#8].map (fun b => Input.host (access (packWrite 0x38 (b.setWidth 32)))) ++
        .host (access (packRead 0x3C)) :: [.reset]) := by decide

theorem test_witness_OnlyCrcWritesChangeCrcState :
    (∃ t, step (withInput (hostWrite 0x38 0x31) committing) = .next t ∧ t.crcState ≠ committing.crcState) ∧
    (∃ t, step (withInput .reset { committing with crcState := 0 }) = .next t ∧ t.crcState ≠ 0) :=
  ⟨⟨_, rfl, by decide⟩, _, rfl, by decide⟩

theorem test_witness_HeaderAndDescriptorLayouts :
    (argumentContext loaded).rt = 1 ∧ ({ argumentContext loaded with rt := 3 } : FrameContext).rt = 3 ∧
    ({ argumentContext loaded with rt := 4 } : FrameContext).rt = 4 ∧
    (commitContext.rt ≠ 1 ∧ commitContext.rt ≠ 3 ∧ commitContext.rt ≠ 4) := by decide

theorem test_witness_PayloadBytes :
    ((argumentContext loaded).rt = 1 ∧ 5 < 3 * (argumentContext loaded).n.toNat) ∧
    (({ argumentContext loaded with rt := 3 } : FrameContext).rt = 3 ∧
      1 < ({ argumentContext loaded with rt := 3 } : FrameContext).n.toNat) ∧
    (commitContext.rt ≠ 1 ∧ commitContext.rt ≠ 3) := by decide

theorem test_witness_CommitFrameBytes : commitContext.ch = 0xFF#8 ∧ commitContext.rt = 0x02#8 := by decide

/-- Two pixel buffers that agree below NEED = 6 and differ above it. -/
theorem test_witness_FrameDependsOnlyOnNeededBytes :
    (∀ a < need (argumentContext loaded).rt (argumentContext loaded).n,
      (fun a => if a < 6 then 0x11#8 else 0x22#8) a = (fun _ => 0x11#8) a) ∧
    (fun a => if a < 6 then 0x11#8 else 0x22#8) 6 ≠ (fun _ : Nat => 0x11#8) 6 := by decide

/-- The invariant holds with a commit frame starting, with one byte of it left, and inside the body of a WS2812 frame. -/
theorem committing_inv : committing.Inv :=
  ⟨⟨by decide, by decide, by decide, by decide, by decide⟩,
   fun _ => ⟨by decide, by decide, by decide, by decide, by decide, by decide, by decide, by decide⟩⟩

theorem lastByteLeft_inv : lastByteLeft.Inv :=
  ⟨⟨by decide, by decide, by decide, by decide, by decide⟩,
   fun _ => ⟨by decide, by decide, by decide, by decide, by decide, by decide, by decide, by decide⟩⟩

theorem oneByteSent_inv : oneByteSent.Inv :=
  ⟨⟨by decide, by decide, by decide, by decide, by decide⟩,
   fun _ => ⟨by decide, by decide, by decide, by decide, by decide, by decide, by decide, by decide⟩⟩

theorem test_witness_OfferedByteIsTheFrames :
    loaded.seqState = .idle ∧ (oneByteSent.Inv ∧ oneByteSent.seqState = .frame) ∧
    (lastByteLeft.Inv ∧ lastByteLeft.seqState = .frame) :=
  ⟨rfl, ⟨oneByteSent_inv, rfl⟩, lastByteLeft_inv, rfl⟩

/-- A body byte, and the first checksum byte. -/
theorem test_witness_AcceptedByteAdvancesTheFrame :
    ((withInput accept oneByteSent).inputs = [.transport true false] ∧ offered (withInput accept oneByteSent) = some 0x50 ∧
      oneByteSent.seqPos + 1 ≠ oneByteSent.frameBody.length + 4 ∧ oneByteSent.seqPos < oneByteSent.frameBody.length) ∧
    ((withInput accept { lastByteLeft with seqPos := 6 }).inputs = [.transport true false] ∧
      offered (withInput accept { lastByteLeft with seqPos := 6 }) = some 0x9B ∧ 6 + 1 ≠ lastByteLeft.frameBody.length + 4 ∧
      ¬ 6 < lastByteLeft.frameBody.length) := by decide

theorem test_witness_LastByteCompletesTheFrame :
    (withInput accept lastByteLeft).inputs = [.transport true false] ∧ offered (withInput accept lastByteLeft) = some 0xDF ∧
    lastByteLeft.seqPos + 1 = lastByteLeft.frameBody.length + 4 := by decide

theorem test_witness_FailedByteEndsTheFrame :
    (withInput (.transport true true) oneByteSent).inputs = [.transport true true] ∧ oneByteSent.seqState = .frame := by
  decide

theorem test_witness_NoHandshakeChangesNothing :
    ((withInput (.transport false true) oneByteSent).inputs = [.transport false true] ∧ false = false) ∧
    ((withInput accept loaded).inputs = [.transport true false] ∧ loaded.seqState = .idle) := by decide

theorem test_witness_HostCannotDisturbTheFrame :
    oneByteSent.seqState = .frame ∧ ∃ t, exec (.wrRectype 3) oneByteSent = .next t := ⟨rfl, _, rfl⟩

theorem test_witness_WireGrowsOnlyByAcceptedBytes :
    ∃ t, step (withInput accept oneByteSent) = .next t ∧ t.wire = [0x55, 0x50] := ⟨_, rfl, by decide⟩

theorem test_witness_FrameStartsOnlyByCommand :
    (∃ t, step (withInput (hostWrite 0x04 1) loaded) = .next t ∧ loaded.seqState = .idle ∧ t.seqState = .frame) ∧
    (∃ t, step (withInput (hostWrite 0x04 2) loaded) = .next t ∧ loaded.seqState = .idle ∧ t.seqState = .frame) :=
  ⟨⟨_, rfl, by decide⟩, _, rfl, by decide⟩

theorem test_witness_FrameEndsOnlyByTransportOrReset :
    (∃ t, step (withInput accept lastByteLeft) = .next t ∧ lastByteLeft.seqState = .frame ∧ t.seqState = .idle) ∧
    (∃ t, step (withInput (.transport true true) oneByteSent) = .next t ∧ t.seqState = .idle) ∧
    (∃ t, step (withInput .reset oneByteSent) = .next t ∧ t.seqState = .idle) :=
  ⟨⟨_, rfl, by decide⟩, ⟨_, rfl, by decide⟩, _, rfl, by decide⟩

theorem test_witness_LastCrcChangesOnlyAtCompletion :
    (∃ t, step (withInput accept lastByteLeft) = .next t ∧ t.lastCrc ≠ lastByteLeft.lastCrc) ∧
    (∃ t, step (withInput .reset { loaded with lastCrc := 7 }) = .next t ∧ t.lastCrc ≠ 7) :=
  ⟨⟨_, rfl, by decide⟩, _, rfl, by decide⟩

/-- A whole commit frame with a stall and three host accesses in between, one of them a command. -/
def interleaved : List Input :=
  [accept, accept, .host (access (packRead 0x08)), accept, .transport false true, accept, hostWrite 0x04 1, accept, accept,
   hostWrite 0x0C 9, accept, accept, accept]

theorem interleaved_harmless : ∀ e ∈ interleaved, e.harmless := by
  simp only [interleaved, List.forall_mem_cons]
  exact ⟨fun _ => rfl, fun _ => rfl, ⟨_, rfl⟩, fun _ => rfl, fun h => (Bool.false_ne_true h).elim, fun _ => rfl, ⟨_, rfl⟩,
    fun _ => rfl, fun _ => rfl, ⟨_, rfl⟩, fun _ => rfl, fun _ => rfl, fun _ => rfl, fun _ h => (List.not_mem_nil h).elim⟩

theorem test_witness_FrameCompletesUnderAnyInterleaving :
    ∃ s : State, s.Inv ∧ s.seqState = .frame ∧ (∀ e ∈ interleaved, e.harmless) ∧
      interleaved.countP Input.accepts + s.seqPos = s.frameBody.length + 3 ∧
      s.inputs = interleaved ++ .transport true false :: [.reset] :=
  ⟨{ committing with inputs := interleaved ++ [.transport true false, .reset] },
   ⟨⟨by decide, by decide, by decide, by decide, by decide⟩,
    fun _ => ⟨by decide, by decide, by decide, by decide, by decide, by decide, by decide, by decide⟩⟩,
   rfl, interleaved_harmless, by decide, rfl⟩

theorem test_witness_StickyErrorFlagCauses :
    (∃ t, step (withInput (hostWrite 0x30 0xAA) committing) = .next t ∧ committing.status.busyErr = false ∧
      t.status.busyErr = true) ∧
    (∃ t, step (withInput (hostWrite 0x04 0x07) committing) = .next t ∧ committing.status.cmdErr = false ∧
      t.status.cmdErr = true) ∧
    (∃ t, step (withInput (hostWrite 0x08 0x10) { loaded with status := ⟨false, false, false, true, true⟩ }) = .next t ∧
      t.status.busyErr = false ∧ t.status.cmdErr = true) ∧
    (∃ t, step (withInput .reset { loaded with status := ⟨false, false, false, true, true⟩ }) = .next t ∧
      t.status.busyErr = false ∧ t.status.cmdErr = false) :=
  ⟨⟨_, rfl, by decide⟩, ⟨_, rfl, by decide⟩, ⟨_, rfl, by decide⟩, _, rfl, by decide⟩

theorem test_witness_ResultFlagCauses :
    (∃ t, step (withInput accept lastByteLeft) = .next t ∧ lastByteLeft.status.done = false ∧ t.status.done = true) ∧
    (∃ t, step (withInput (.transport true true) oneByteSent) = .next t ∧ oneByteSent.status.txFail = false ∧
      t.status.txFail = true) ∧
    (∃ t, step (withInput (hostWrite 0x04 1) { loaded with bufLen := 5 }) = .next t ∧ loaded.status.lenErr = false ∧
      t.status.lenErr = true ∧ t.status.done = true) ∧
    (∃ t, step (withInput (hostWrite 0x04 2) { loaded with status := ⟨true, false, false, false, false⟩ }) = .next t ∧
      t.status.done = false) ∧
    (∃ t, step (withInput (hostWrite 0x08 2) { loaded with status := ⟨true, false, false, false, false⟩ }) = .next t ∧
      t.status.done = false) :=
  ⟨⟨_, rfl, by decide⟩, ⟨_, rfl, by decide⟩, ⟨_, rfl, by decide⟩, ⟨_, rfl, by decide⟩, _, rfl, by decide⟩

theorem test_witness_PixelBufferChangesOnlyByItsWrites :
    (∃ t, step (withInput (hostWrite 0x2C 1) loaded) = .next t ∧ t.pixbuf ≠ loaded.pixbuf) ∧
    (∃ t, step (withInput .reset loaded) = .next t ∧ t.pixbuf ≠ loaded.pixbuf) :=
  ⟨⟨_, rfl, by decide⟩, _, rfl, by decide⟩

theorem test_witness_ResetStepRestoresResetValues : (withInput .reset oneByteSent).inputs = .reset :: [] := by decide

theorem test_witness_ResetDrawsPixelBufferAnew :
    (withInput .reset oneByteSent).inputs = .reset :: [] ∧ 0x3FFFF < 2 ^ oneByteSent.config.pixbufAw := by decide

theorem test_witness_PayloadLengthIsCountTimesWidth :
    (argumentContext loaded).rt = 1 ∧ ({ argumentContext loaded with rt := 3 } : FrameContext).rt = 3 := by decide

theorem test_witness_StepRunsTheDecodedInstruction :
    (withInput (hostWrite 0x04 1) loaded).inputs = .host ⟨32, 0x10400000001#41⟩ :: [] ∧
    decodeAccess ⟨32, 0x10400000001#41⟩ = .ok (.cmdSendChannel 1) := by decide

/-- One access of each kind that is refused, and one that is not. -/
theorem test_witness_RefusesExactlyUncarriedAccesses :
    step (withInput (.host ⟨16, 0x00000000000#41⟩) loaded) = .refused (.accessWidth 16) ∧
    step (withInput (.host ⟨32, 0x00300000000#41⟩) loaded) = .refused (.misaligned 0x03) ∧
    ∃ t, step (withInput (.host ⟨32, 0x0FC00000000#41⟩) loaded) = .next t := ⟨rfl, rfl, _, rfl⟩

theorem test_witness_DecodeOfEncode :
    (Instr.wrReserved80FC 0xFC 0xFFFFFFFF).wellFormed = true ∧ (Instr.cmdReserved407F 0xABCDEF7F).wellFormed = true ∧
    (Instr.rdReserved505C 0x50).wellFormed = true := by decide

theorem test_witness_EncodeOfDecode :
    (decode 0x1FCFFFFFFFF#41 = .ok (.wrReserved80FC 0xFC 0xFFFFFFFF) ∧ (0x1FCFFFFFFFF#41).getLsbD 40 = true) ∧
    (decode 0x07C00000000#41 = .ok (.rdReserved607C 0x7C) ∧ (0x07C00000000#41).toNat % 2 ^ 32 = 0) := by decide

theorem test_witness_DecodeNamesTheOneRow :
    (0x00000000000#41).toNat / 2 ^ 32 % 4 = 0 ∧ (0x1FCFFFFFFFF#41).toNat / 2 ^ 32 % 4 = 0 := by decide

theorem test_witness_StepKeepsInvariant :
    (∃ t, committing.Inv ∧ step committing = .next t) ∧ (∃ t, oneByteSent.Inv ∧ step oneByteSent = .next t) :=
  ⟨⟨_, committing_inv, rfl⟩, _, oneByteSent_inv, rfl⟩

theorem test_witness_StepKeepsWireFramed : lastByteLeft.Inv ∧ lastByteLeft.WireFramed ∧ ∃ t, step lastByteLeft = .next t :=
  ⟨lastByteLeft_inv, ⟨[], by decide, fun _ h => (List.not_mem_nil h).elim⟩, _, rfl⟩

end Sys2Proof.Tests
end

section
/-! The checksum of R125 on the empty sequence (R126) and on the spec's check sequence (R4). -/

namespace Sys2Proof.Machine

@[simp] theorem rawCrc_nil (c : Word) : rawCrc c [] = c := rfl

/-- R126: with no byte folded in, the register's all ones are complemented. -/
@[simp] theorem crc32_nil : crc32 [] = 0#32 := by
  have all_ones : crcInit = BitVec.allOnes 32 := rfl
  rw [crc32, rawCrc_nil, all_ones, BitVec.not_allOnes]

/-- The ASCII bytes of the digits 1 to 9, the check sequence of R4. -/
def checkSequence : List Byte := [0x31#8, 0x32#8, 0x33#8, 0x34#8, 0x35#8, 0x36#8, 0x37#8, 0x38#8, 0x39#8]

/-- The raw register after the check sequence (95_test_vectors.md L1.1), before the final complement. -/
theorem rawCrc_checkSequence : rawCrc crcInit checkSequence = 0x340BC6D9#32 := by decide

theorem crc32_checkSequence : crc32 checkSequence = 0xCBF43926#32 := by
  rw [crc32, rawCrc_checkSequence]
  rfl

/-- Settles O23: the register's value after each sequence, complemented. -/
theorem crcCheckValue : Obligations.CrcCheckValue :=
  ⟨crc32_checkSequence, crc32_nil⟩

end Sys2Proof.Machine
end

section
/-! SUPPORT. The host port's decoder against well-formedness (30_encoding.md R81 to R84), and the reserved commands. -/

namespace Sys2Proof

theorem decodeCommand_wellFormed (data : Word) : (decodeCommand data).wellFormed = true := by
  have fits : (opcodeOf data).toNat < 256 := (opcodeOf data).isLt
  have same : txnOpcode data = opcodeOf data := rfl
  simp only [decodeCommand, same]
  split_ifs <;> simp only [Instr.wellFormed, opcodeIn, Bool.and_eq_true, decide_eq_true_eq] <;> omega

theorem decodeReservedRead_wellFormed {off : Byte} (aligned : off.toNat % 4 = 0) (high : 0x4C ≤ off.toNat) :
    (decodeReservedRead off).wellFormed = true := by
  have fits : off.toNat < 256 := off.isLt
  simp only [decodeReservedRead]
  split_ifs <;> simp only [Instr.wellFormed, offsetIn, Bool.and_eq_true, decide_eq_true_eq] <;> omega

theorem decodeReservedWrite_wellFormed {off : Byte} (data : Word) (aligned : off.toNat % 4 = 0)
    (high : 0x4C ≤ off.toNat) : (decodeReservedWrite off data).wellFormed = true := by
  have fits : off.toNat < 256 := off.isLt
  simp only [decodeReservedWrite]
  split_ifs <;> simp only [Instr.wellFormed, offsetIn, Bool.and_eq_true, decide_eq_true_eq] <;> omega

theorem decodeRead_wellFormed {off : Byte} (aligned : off.toNat % 4 = 0) : (decodeRead off).wellFormed = true := by
  unfold decodeRead
  split
  case h_20 =>
    simp only [imp_false] at *
    exact decodeReservedRead_wellFormed aligned (by omega)
  all_goals rfl

theorem decodeWrite_wellFormed {off : Byte} (data : Word) (aligned : off.toNat % 4 = 0) :
    (decodeWrite off data).wellFormed = true := by
  unfold decodeWrite
  split
  case h_2 => exact decodeCommand_wellFormed data
  case h_20 =>
    simp only [imp_false] at *
    exact decodeReservedWrite_wellFormed data aligned (by omega)
  all_goals rfl

/-- The decoder answers only instructions whose operands lie in their row of the opcode table. -/
theorem decode_wellFormed {t : TxnWord} {i : Instr} (h : decode t = .ok i) : i.wellFormed = true := by
  unfold decode at h
  split_ifs at h with aligned write
  · exact Except.ok.inj h ▸ decodeWrite_wellFormed _ aligned
  · exact Except.ok.inj h ▸ decodeRead_wellFormed aligned

theorem decodeAccess_wellFormed {a : HostAccess} {i : Instr} (h : decodeAccess a = .ok i) : i.wellFormed = true := by
  unfold decodeAccess at h
  split_ifs at h
  exact decode_wellFormed h

/-- The eight rows of the opcode table for a write of CMD with a reserved OPCODE (42_frame_encoder.md R161). -/
def reservedCommands (data : Word) : List Instr :=
  [.cmdReserved00 data, .cmdReserved03 data, .cmdReserved0407 data, .cmdReserved080F data,
   .cmdReserved101F data, .cmdReserved203F data, .cmdReserved407F data, .cmdReserved80FF data]

theorem encode_of_mem_reservedCommands {data : Word} :
    ∀ i ∈ reservedCommands data, encode i = txnWord true 0x04#8 data := by
  simp [reservedCommands, encode]

theorem opcodeOf_toNat (data : Word) : (opcodeOf data).toNat = data.toNat % 256 := by
  simp [opcodeOf]

/-- The rows of the reserved OPCODEs leave out the two valid ones. -/
theorem opcode_of_mem_reservedCommands {data : Word} :
    ∀ i ∈ reservedCommands data, i.wellFormed = true → data.toNat % 256 ≠ 1 ∧ data.toNat % 256 ≠ 2 := by
  simp only [reservedCommands, List.forall_mem_cons, Instr.wellFormed, opcodeIn, opcodeOf_toNat, Bool.and_eq_true,
    decide_eq_true_eq, List.not_mem_nil, false_imp_iff, implies_true, and_true]
  omega

/-- The packed write of R80, in arithmetic and by fields. -/
theorem Machine.packWrite_eq_txnWord (off : Byte) (data : Word) :
    Machine.packWrite off.toNat data = txnWord true off data := by
  have hoff : off.toNat < 2 ^ 8 := off.isLt
  have hdata : data.toNat < 2 ^ 32 := data.isLt
  apply BitVec.eq_of_toNat_eq
  rw [Machine.packWrite, txnWord, BitVec.toNat_ofNat, BitVec.toNat_append, ← Nat.shiftLeft_add_eq_or_of_lt hdata,
    BitVec.toNat_append, ← Nat.shiftLeft_add_eq_or_of_lt hoff, BitVec.toNat_ofBool, Nat.shiftLeft_eq, Nat.shiftLeft_eq,
    Bool.toNat_true]
  omega

end Sys2Proof
end

section
/-! SUPPORT. Everything one host instruction and one step of the machine can do, said once for every later proof
(20_memory.md R68, R70). -/

namespace Sys2Proof.Machine

/-- Everything instruction `i` can do from `s`, with the condition under which it does it. -/
inductive HostEffect (s : State) : Instr → State → Prop
  /-- A read answers RDATA. -/
  | respond {i : Instr} (v : Word) : HostEffect s i (s.respond v)
  /-- A write of a read-only register or of a reserved offset. -/
  | ignored {i : Instr} : HostEffect s i s
  /-- A write of one of the six argument registers. -/
  | argument {i : Instr} (ch rt co : Byte) (n : Half) (f : Word) (br : Byte) : HostEffect s i
      { s with channel := ch, rectype := rt, colorOrder := co, pixelCount := n, frequency := f, brightness := br }
  | bufLen (d : Word) : HostEffect s (.wrBufLen d) (s.setBufLen (bufLenOperand s d))
  | pbAddr (d : Word) : HostEffect s (.wrPbAddr d) (s.setPbAddr (pbAddrOperand s d))
  | crc {i : Instr} (d v : Word) (hi : i = .wrCrcInit d ∨ i = .wrCrcData d) : HostEffect s i (s.setCrcState v)
  | clear (d : Word) : HostEffect s (.wrStatus d) (s.w1c d)
  | store {i : Instr} (d : Word) (bs : List Byte) (hi : i = .wrPbData d ∨ i = .wrPbData8 d) (idle : s.seqState = .idle) :
      HostEffect s i (s.storePixels bs)
  | reservedCommand {i : Instr} (d : Word) (hi : i ∈ reservedCommands d) : HostEffect s i (s.raise .cmdErr)
  /-- What needs the block idle, while a frame is in progress. -/
  | refusedBusy {i : Instr} (d : Word)
      (hi : i = .cmdSendChannel d ∨ i = .cmdCommit d ∨ i = .wrPbData d ∨ i = .wrPbData8 d) (inFrame : s.seqState = .frame) :
      HostEffect s i (s.raise .busyErr)
  | refusedLength (d : Word) (idle : s.seqState = .idle) (long : s.bufLen.toNat < need s.rectype s.pixelCount) :
      HostEffect s (.cmdSendChannel d) (s.latch (argumentContext s)).refuseLength
  | start {i : Instr} (d : Word) (c : FrameContext) (hi : i = .cmdSendChannel d ∨ i = .cmdCommit d)
      (idle : s.seqState = .idle) (fits : need c.rt c.n ≤ s.bufLen.toNat) : HostEffect s i (s.latch c).startFrame

theorem pixelWrite_effect {i : Instr} {d : Word} (bs : List Byte) (s : State) (hi : i = .wrPbData d ∨ i = .wrPbData8 d) :
    HostEffect s i (s.unlessBusy (State.storePixels bs)) := by
  obtain ⟨inFrame, h⟩ | ⟨idle, h⟩ := State.unlessBusy_cases (State.storePixels bs) s
  · exact h ▸ .refusedBusy d (.inr (.inr hi)) inFrame
  · exact h ▸ .store d bs hi idle

theorem sendChannel_effect (d : Word) (s : State) :
    HostEffect s (.cmdSendChannel d) (runCommand (argumentContext s) s) := by
  obtain ⟨inFrame, h⟩ | ⟨idle, long, h⟩ | ⟨idle, fits, h⟩ := runCommand_cases (argumentContext s) s
  · exact h ▸ .refusedBusy d (.inl rfl) inFrame
  · exact h ▸ .refusedLength d idle long
  · exact h ▸ .start d _ (.inl rfl) idle fits

/-- DRAW_ALL carries no pixels, so COMMIT always passes the length check (42_frame_encoder.md R166). -/
theorem need_commitContext : need commitContext.rt commitContext.n = 0 := by decide

theorem commit_effect (d : Word) (s : State) : HostEffect s (.cmdCommit d) (runCommand commitContext s) := by
  obtain ⟨inFrame, h⟩ | ⟨-, long, -⟩ | ⟨idle, fits, h⟩ := runCommand_cases commitContext s
  · exact h ▸ .refusedBusy d (.inr (.inl rfl)) inFrame
  · exact absurd long (by simp [need_commitContext])
  · exact h ▸ .start d _ (.inr rfl) idle fits

/-- Every instruction completes, with one of the effects. -/
theorem exec_effect (i : Instr) (s : State) : ∃ t, exec i s = .next t ∧ HostEffect s i t := by
  cases i with
  | rdId | rdCmd | rdStatus | rdChannel | rdRectype | rdColorOrder | rdPixelCount | rdFrequency | rdBrightness | rdBufLen
  | rdPbAddr | rdPbData | rdPbData8 | rdCrcInit | rdCrcData | rdCrcResult | rdCrcState | rdLastCrc | rdTxCount
  | rdReserved4C | rdReserved505C | rdReserved607C | rdReserved80FC => exact ⟨_, rfl, .respond _⟩
  | wrId | wrCrcResult | wrCrcState | wrLastCrc | wrTxCount | wrReserved4C | wrReserved505C | wrReserved607C
  | wrReserved80FC => exact ⟨_, rfl, .ignored⟩
  | wrChannel | wrRectype | wrColorOrder | wrPixelCount | wrFrequency | wrBrightness =>
    exact ⟨_, rfl, .argument _ _ _ _ _ _⟩
  | wrBufLen d => exact ⟨_, rfl, .bufLen d⟩
  | wrPbAddr d => exact ⟨_, rfl, .pbAddr d⟩
  | wrCrcInit d => exact ⟨_, rfl, .crc d _ (.inl rfl)⟩
  | wrCrcData d => exact ⟨_, rfl, .crc d _ (.inr rfl)⟩
  | wrStatus d => exact ⟨_, rfl, .clear d⟩
  | wrPbData d => exact ⟨_, rfl, pixelWrite_effect _ s (.inl rfl)⟩
  | wrPbData8 d => exact ⟨_, rfl, pixelWrite_effect _ s (.inr rfl)⟩
  | cmdReserved00 d | cmdReserved03 d | cmdReserved0407 d | cmdReserved080F d | cmdReserved101F d | cmdReserved203F d
  | cmdReserved407F d | cmdReserved80FF d => exact ⟨_, rfl, .reservedCommand d (by simp [reservedCommands])⟩
  | cmdSendChannel d => exact ⟨_, rfl, sendChannel_effect d s⟩
  | cmdCommit d => exact ⟨_, rfl, commit_effect d s⟩

/-- FRAME_CRC once the byte on offer is accepted: a body byte is folded, a checksum byte is not (42_frame_encoder.md R170). -/
def State.crcAfterOffered (s : State) : Word :=
  if s.seqPos < s.frameBody.length then fold s.frameCrc (byteAt s s.seqPos) else s.frameCrc

/-- Everything one step can do from `s`, by the input it takes. -/
inductive StepEffect (s : State) : State → Prop
  /-- The environment does nothing. -/
  | wait : StepEffect s s
  | host {a : HostAccess} {rest : List Input} {i : Instr} {t : State} (hin : s.inputs = .host a :: rest)
      (hd : decodeAccess a = .ok i) (he : HostEffect (s.setInputs rest) i t) : StepEffect s t
  /-- A transport input without a handshake. -/
  | stall (rest : List Input) : StepEffect s (s.setInputs rest)
  | fail {rest : List Input} (hin : s.inputs = .transport true true :: rest) (inFrame : s.seqState = .frame) :
      StepEffect s (s.setInputs rest).failFrame
  /-- The byte accepted is not the last. -/
  | accept (rest : List Input) (inFrame : s.seqState = .frame) (more : s.seqPos + 1 ≠ s.frameBody.length + 4) :
      StepEffect s { (s.setInputs rest).sendByte (byteAt s s.seqPos) with frameCrc := s.crcAfterOffered }
  | complete (rest : List Input) (inFrame : s.seqState = .frame) (last : s.seqPos + 1 = s.frameBody.length + 4) :
      StepEffect s ((s.setInputs rest).sendByte (byteAt s s.seqPos)).complete
  | reset {rest : List Input} (hin : s.inputs = .reset :: rest) : StepEffect s (s.setInputs rest).resetBlock

theorem acceptByte_effect (rest : List Input) {s : State} (inFrame : s.seqState = .frame) :
    StepEffect s (acceptByte (s.setInputs rest)) := by
  obtain ⟨hbody, h⟩ | ⟨hsum, more, h⟩ | ⟨last, h⟩ := acceptByte_cases (s.setInputs rest) <;> rw [h]
  · have hbody : s.seqPos < s.frameBody.length := hbody
    have accepted := StepEffect.accept rest inFrame (by omega)
    rwa [State.crcAfterOffered, if_pos hbody] at accepted
  · have hsum : ¬ s.seqPos < s.frameBody.length := Nat.not_lt.2 hsum
    have accepted := StepEffect.accept rest inFrame more
    rwa [State.crcAfterOffered, if_neg hsum] at accepted
  · exact .complete rest inFrame last

/-- Inversion of a step that answers a next state. -/
theorem step_effect {s t : State} (h : step s = .next t) : StepEffect s t := by
  obtain ⟨-, hs⟩ | ⟨a, rest, e, -, -, hs⟩ | ⟨a, rest, i, hin, hd, hs⟩ | ⟨r, e, rest, hin, hs⟩ | ⟨rest, hin, hs⟩ :=
    step_cases s <;> rw [hs] at h
  · cases h
    exact .wait
  · cases h
  · obtain ⟨u, hu, he⟩ := exec_effect i (s.setInputs rest)
    cases hu.symm.trans h
    exact .host hin hd he
  · cases h
    obtain ⟨-, ht⟩ | ⟨inFrame, rfl, rfl, ht⟩ | ⟨inFrame, rfl, rfl, ht⟩ := transportStep_cases r e (s.setInputs rest) <;>
      rw [ht]
    · exact .stall rest
    · exact .fail hin inFrame
    · exact acceptByte_effect rest inFrame
  · cases h
    exact .reset hin

end Sys2Proof.Machine
end

section
/-! The machine's invariant over one step: the buffer's bounds under every effect, the frame's bookkeeping where no byte is
accepted, at a frame's start, and at an accepted byte. -/

namespace Sys2Proof.Machine

/-! ### Checksums and the frame's bytes -/

theorem rawCrc_append (c : Word) (l m : List Byte) : rawCrc c (l ++ m) = rawCrc (rawCrc c l) m := List.foldl_append

theorem rawCrc_take_succ (c : Word) {l : List Byte} {p : Nat} (h : p < l.length) :
    rawCrc c (l.take (p + 1)) = fold (rawCrc c (l.take p)) l[p] := by
  rw [List.take_succ_eq_append_getElem h, rawCrc_append]
  rfl

theorem le32_getElem? (v : Word) {k : Nat} (h : k < 4) : (le32 v)[k]? = some (byteOf v k) := by
  interval_cases k <;> rfl

theorem State.frameBytes_eq (s : State) : s.frameBytes = s.frameBody ++ le32 (crc32 s.frameBody) := rfl

/-- The byte the sequencer offers is the frame's, checksum bytes included (42_frame_encoder.md R168): past the body FRAME_CRC
has folded all of it. -/
theorem State.FrameOk.frameBytes_seqPos {s : State} (h : s.FrameOk) :
    s.frameBytes[s.seqPos]? = some (byteAt s s.seqPos) := by
  rw [s.frameBytes_eq]
  by_cases hbody : s.seqPos < s.frameBody.length
  · rw [List.getElem?_append_left hbody, List.getElem?_eq_getElem hbody, byteAt_body s hbody]
  · have hsum : s.frameBody.length ≤ s.seqPos := Nat.not_lt.1 hbody
    have hpos : s.seqPos - s.frameBody.length < 4 := by have := h.pos; omega
    have hcrc : ~~~ s.frameCrc = crc32 s.frameBody := by rw [h.crc, List.take_of_length_le hsum, crc32]
    rw [List.getElem?_append_right hsum, le32_getElem? _ hpos, byteAt_checksum s hsum, hcrc]

/-- FRAME_CRC after the byte on offer is accepted has folded one body byte more, or all of the body (R170). -/
theorem State.FrameOk.crcAfterOffered_eq {s : State} (h : s.FrameOk) :
    s.crcAfterOffered = rawCrc crcInit (s.frameBody.take (s.seqPos + 1)) := by
  unfold State.crcAfterOffered
  split_ifs with hbody
  · rw [rawCrc_take_succ crcInit hbody, ← h.crc, byteAt_body s hbody]
  · rw [h.crc, List.take_of_length_le (by omega), List.take_of_length_le (by omega)]

/-- The wire still ends with the bytes of the frame accepted so far when it takes the byte on offer (R169). -/
theorem State.FrameOk.sent_advance {s : State} (h : s.FrameOk) :
    s.frameBytes.take (s.seqPos + 1) <:+ s.wire ++ [byteAt s s.seqPos] := by
  rw [List.take_add_one, h.frameBytes_seqPos]
  exact (List.suffix_append_inj_of_length_eq rfl).2 ⟨h.sent, rfl⟩

/-! ### The frame's bookkeeping -/

/-- An accepted byte before the last keeps the bookkeeping (42_frame_encoder.md R169, R170). -/
theorem State.FrameOk.accept {s : State} (h : s.FrameOk) (rest : List Input)
    (more : s.seqPos + 1 ≠ s.frameBody.length + 4) :
    ({ (s.setInputs rest).sendByte (byteAt s s.seqPos) with frameCrc := s.crcAfterOffered } : State).FrameOk where
  pos := Nat.lt_of_le_of_ne h.pos more
  count := by
    show s.txCount + 1 = BitVec.ofNat 32 (s.seqPos + 1)
    rw [h.count, BitVec.ofNat_add]
    rfl
  crc := h.crcAfterOffered_eq
  sent := h.sent_advance
  fits := h.fits
  done := h.done
  txFail := h.txFail
  lenErr := h.lenErr

/-- Frame start from a command whose pixel data is within BUF_LEN (R163, R164). -/
theorem State.BufferOk.start_frameOk {s : State} (h : s.BufferOk) {c : FrameContext}
    (fits : need c.rt c.n ≤ s.bufLen.toNat) : ((s.latch c).startFrame).FrameOk where
  pos := Nat.succ_pos _
  count := rfl
  crc := rfl
  sent := List.nil_suffix
  fits := Nat.le_trans fits h.bufLen
  done := rfl
  txFail := rfl
  lenErr := rfl

/-- What the bookkeeping of a frame in progress reads of the state is the same in `t` as in `s`, and no result flag is newly
set. -/
structure State.KeepsFrame (s t : State) : Prop where
  config   : t.config = s.config
  resets   : t.resets = s.resets
  pixbuf   : t.pixbuf = s.pixbuf
  fc       : t.fc = s.fc
  seqPos   : t.seqPos = s.seqPos
  txCount  : t.txCount = s.txCount
  frameCrc : t.frameCrc = s.frameCrc
  wire     : t.wire = s.wire
  done     : t.status.done = true → s.status.done = true
  txFail   : t.status.txFail = true → s.status.txFail = true
  lenErr   : t.status.lenErr = true → s.status.lenErr = true

theorem State.KeepsFrame.frameBody {s t : State} (h : s.KeepsFrame t) : t.frameBody = s.frameBody := by
  rw [State.frameBody, State.frameBody, h.fc, State.pb_congr h.pixbuf h.resets h.config]

theorem State.KeepsFrame.frameBytes {s t : State} (h : s.KeepsFrame t) : t.frameBytes = s.frameBytes := by
  rw [State.frameBytes_eq, State.frameBytes_eq, h.frameBody]

theorem State.KeepsFrame.frameOk {s t : State} (h : s.KeepsFrame t) (hs : s.FrameOk) : t.FrameOk where
  pos := by rw [h.seqPos, h.frameBody]; exact hs.pos
  count := by rw [h.txCount, h.seqPos]; exact hs.count
  crc := by rw [h.frameCrc, h.frameBody, h.seqPos]; exact hs.crc
  sent := by rw [h.frameBytes, h.seqPos, h.wire]; exact hs.sent
  fits := by rw [h.fc, State.pixbufBytes, h.config]; exact hs.fits
  done := Bool.eq_false_iff.2 (mt h.done (Bool.eq_false_iff.1 hs.done))
  txFail := Bool.eq_false_iff.2 (mt h.txFail (Bool.eq_false_iff.1 hs.txFail))
  lenErr := Bool.eq_false_iff.2 (mt h.lenErr (Bool.eq_false_iff.1 hs.lenErr))

/-- R72: while a frame is in progress no instruction touches it. -/
theorem HostEffect.keepsFrame {s t : State} {i : Instr} (h : HostEffect s i t) (inFrame : s.seqState = .frame) :
    s.KeepsFrame t := by
  cases h with
  | store _ _ _ idle | refusedLength _ idle | start _ _ _ idle => exact absurd (inFrame.symm.trans idle) (by decide)
  | clear d =>
    obtain ⟨done, txFail, lenErr, -, -⟩ := s.status.w1c_le d
    exact ⟨rfl, rfl, rfl, rfl, rfl, rfl, rfl, rfl, done, txFail, lenErr⟩
  | _ => exact ⟨rfl, rfl, rfl, rfl, rfl, rfl, rfl, rfl, id, id, id⟩

/-! ### The buffer's bounds -/

theorem bufLenOperand_le (s : State) (d : Word) : (bufLenOperand s d).toNat ≤ s.pixbufBytes := by
  rw [bufLenOperand, BitVec.toNat_ofNat]
  exact Nat.le_trans (Nat.mod_le _ _) (Nat.min_le_right _ _)

theorem toNat_ofNat_mod_pixbufBytes_lt (s : State) (n : Nat) :
    (BitVec.ofNat 32 (n % s.pixbufBytes)).toNat < s.pixbufBytes := by
  rw [BitVec.toNat_ofNat]
  exact Nat.lt_of_le_of_lt (Nat.mod_le _ _) (Nat.mod_lt _ s.pixbufBytes_pos)

theorem State.BufferOk.of_eq {s t : State} (h : s.BufferOk) (config : t.config = s.config) (pixbuf : t.pixbuf = s.pixbuf)
    (bufLen : t.bufLen = s.bufLen) (pbAddr : t.pbAddr = s.pbAddr) : t.BufferOk := by
  have bytes : t.pixbufBytes = s.pixbufBytes := by rw [State.pixbufBytes, State.pixbufBytes, config]
  exact ⟨config ▸ h.legal, pixbuf ▸ h.canonical, pixbuf ▸ bytes ▸ h.inside, bufLen ▸ bytes ▸ h.bufLen,
    pbAddr ▸ bytes ▸ h.pbAddr⟩

theorem HostEffect.bufferOk {s t : State} {i : Instr} (h : HostEffect s i t) (hs : s.BufferOk) : t.BufferOk := by
  cases h with
  | bufLen d => exact { hs with bufLen := bufLenOperand_le s d }
  | pbAddr d => exact { hs with pbAddr := toNat_ofNat_mod_pixbufBytes_lt s _ }
  | store d bs =>
    obtain ⟨canonical, inside⟩ := s.storePixels_bufferOk bs hs.canonical hs.inside
    exact ⟨hs.legal, canonical, inside, hs.bufLen, toNat_ofNat_mod_pixbufBytes_lt s _⟩
  | _ => exact hs.of_eq rfl rfl rfl rfl

/-- RST empties the list of written bytes and zeroes BUF_LEN and PB_ADDR. -/
theorem State.resetBlock_bufferOk {s : State} (legal : s.config.Legal) : s.resetBlock.BufferOk where
  legal := legal
  canonical := State.reset_pixbuf_wf
  inside _ hc := (List.not_mem_nil hc).elim
  bufLen := Nat.zero_le _
  pbAddr := s.pixbufBytes_pos

/-! ### The invariant -/

/-- An instruction either starts a frame or leaves SEQ_STATE as it was. -/
theorem HostEffect.seqState {s t : State} {i : Instr} (h : HostEffect s i t) :
    t.seqState = s.seqState ∨ (s.seqState = .idle ∧ ∃ c, need c.rt c.n ≤ s.bufLen.toNat ∧ t = (s.latch c).startFrame) := by
  cases h with
  | start d c _ idle fits => exact .inr ⟨idle, c, fits, rfl⟩
  | _ => exact .inl rfl

theorem HostEffect.inv {s t : State} {i : Instr} (h : HostEffect s i t) (hs : s.Inv) : t.Inv where
  buffer := h.bufferOk hs.buffer
  frame ht := by
    obtain hsame | ⟨-, c, fits, rfl⟩ := h.seqState
    · have inFrame : s.seqState = .frame := hsame ▸ ht
      exact (h.keepsFrame inFrame).frameOk (hs.frame inFrame)
    · exact hs.buffer.start_frameOk fits

theorem State.Inv.setInputs {s : State} (h : s.Inv) (l : List Input) : (s.setInputs l).Inv where
  buffer := h.buffer.of_eq rfl rfl rfl rfl
  frame inFrame :=
    have kept : s.KeepsFrame (s.setInputs l) := ⟨rfl, rfl, rfl, rfl, rfl, rfl, rfl, rfl, id, id, id⟩
    kept.frameOk (h.frame inFrame)

/-- While IDLE the invariant is the buffer's bounds alone. -/
theorem State.Inv.of_idle {s : State} (h : s.BufferOk) (idle : s.seqState = .idle) : s.Inv :=
  ⟨h, fun inFrame => absurd (idle.symm.trans inFrame) (by decide)⟩

/-- Settles O58, by the effects of one step. -/
theorem stepKeepsInvariant : Obligations.StepKeepsInvariant := by
  intro s t hs h
  cases step_effect h with
  | wait => exact hs
  | host _ _ he => exact he.inv (hs.setInputs _)
  | stall rest => exact hs.setInputs rest
  | fail | complete => exact .of_idle (hs.buffer.of_eq rfl rfl rfl rfl) rfl
  | accept rest inFrame more =>
    exact ⟨hs.buffer.of_eq rfl rfl rfl rfl, fun _ => (hs.frame inFrame).accept rest more⟩
  | reset => exact .of_idle (State.resetBlock_bufferOk hs.buffer.legal) rfl

end Sys2Proof.Machine
end

section
/-! Which instruction, and which step, can change a register or a STATUS flag. -/

namespace Sys2Proof.Machine

section Host

variable {s t : State} {i : Instr}

/-! ### One host instruction -/

theorem HostEffect.config_eq (h : HostEffect s i t) : t.config = s.config := by cases h <;> rfl

theorem HostEffect.lastCrc_eq (h : HostEffect s i t) : t.lastCrc = s.lastCrc := by cases h <;> rfl

theorem HostEffect.crcWrite_of_crcState_ne (h : HostEffect s i t) (hne : t.crcState ≠ s.crcState) :
    ∃ d, i = .wrCrcInit d ∨ i = .wrCrcData d := by
  cases h with
  | crc d _ hi => exact ⟨d, hi⟩
  | _ => exact absurd rfl hne

theorem HostEffect.pixelWrite_of_pixbuf_ne (h : HostEffect s i t) (hne : t.pixbuf ≠ s.pixbuf) :
    s.seqState = .idle ∧ ∃ d, i = .wrPbData d ∨ i = .wrPbData8 d := by
  cases h with
  | store d _ hi idle => exact ⟨idle, d, hi⟩
  | _ => exact absurd rfl hne

/-- R28: BUSY_ERR is raised by what needs the block idle. -/
theorem HostEffect.busyErr_set (h : HostEffect s i t) (h0 : s.status.busyErr = false) (h1 : t.status.busyErr = true) :
    s.seqState = .frame ∧
      ∃ d, i = .cmdSendChannel d ∨ i = .cmdCommit d ∨ i = .wrPbData d ∨ i = .wrPbData8 d := by
  cases h with
  | refusedBusy d hi inFrame => exact ⟨inFrame, d, hi⟩
  | clear d => simp [StatusFlags.w1c, h0] at h1
  | _ => exact nomatch h0.symm.trans h1

theorem HostEffect.busyErr_cleared (h : HostEffect s i t) (h0 : s.status.busyErr = true)
    (h1 : t.status.busyErr = false) : ∃ d, i = .wrStatus d ∧ d.getLsbD 4 = true := by
  cases h with
  | clear d => exact ⟨d, rfl, by simpa [StatusFlags.w1c, h0] using h1⟩
  | refusedBusy => exact nomatch h1
  | _ => exact nomatch h0.symm.trans h1

/-- R29: CMD_ERR is raised by a reserved command. -/
theorem HostEffect.cmdErr_set (h : HostEffect s i t) (h0 : s.status.cmdErr = false) (h1 : t.status.cmdErr = true) :
    ∃ d, i ∈ reservedCommands d := by
  cases h with
  | reservedCommand d hi => exact ⟨d, hi⟩
  | clear d => simp [StatusFlags.w1c, h0] at h1
  | _ => exact nomatch h0.symm.trans h1

theorem HostEffect.cmdErr_cleared (h : HostEffect s i t) (h0 : s.status.cmdErr = true)
    (h1 : t.status.cmdErr = false) : ∃ d, i = .wrStatus d ∧ d.getLsbD 5 = true := by
  cases h with
  | clear d => exact ⟨d, rfl, by simpa [StatusFlags.w1c, h0] using h1⟩
  | reservedCommand => exact nomatch h1
  | _ => exact nomatch h0.symm.trans h1

/-- R27: LEN_ERR is raised by the length check of SEND_CHANNEL. -/
theorem HostEffect.lenErr_set (h : HostEffect s i t) (h0 : s.status.lenErr = false) (h1 : t.status.lenErr = true) :
    s.seqState = .idle ∧ s.bufLen.toNat < need s.rectype s.pixelCount ∧ ∃ d, i = .cmdSendChannel d := by
  cases h with
  | refusedLength d idle long => exact ⟨idle, long, d, rfl⟩
  | clear d => simp [StatusFlags.w1c, h0] at h1
  | start => exact nomatch h1
  | _ => exact nomatch h0.symm.trans h1

/-- R26: the host never raises TX_FAIL. -/
theorem HostEffect.txFail_unset (h : HostEffect s i t) (h0 : s.status.txFail = false) : t.status.txFail = false := by
  cases h with
  | clear d => simp [StatusFlags.w1c, h0]
  | refusedLength | start => rfl
  | _ => exact h0

/-- R25: among host instructions only a SEND_CHANNEL refused by the length check sets DONE. -/
theorem HostEffect.done_set (h : HostEffect s i t) (h0 : s.status.done = false) (h1 : t.status.done = true) :
    s.seqState = .idle ∧ t.status.lenErr = true ∧ ∃ d, i = .cmdSendChannel d := by
  cases h with
  | refusedLength d idle => exact ⟨idle, rfl, d, rfl⟩
  | clear d => simp [StatusFlags.w1c, h0] at h1
  | start => exact nomatch h1
  | _ => exact nomatch h0.symm.trans h1

theorem HostEffect.done_cleared (h : HostEffect s i t) (h0 : s.status.done = true) (h1 : t.status.done = false) :
    (s.seqState = .idle ∧ t.seqState = .frame) ∨ ∃ d, i = .wrStatus d ∧ d.getLsbD 1 = true := by
  cases h with
  | start _ _ _ idle => exact .inl ⟨idle, rfl⟩
  | clear d => exact .inr ⟨d, rfl, by simpa [StatusFlags.w1c, h0] using h1⟩
  | refusedLength => exact nomatch h1
  | _ => exact nomatch h0.symm.trans h1

end Host

/-! ### One step -/

/-- Settles O27: of the effects of a step only a CRC write's and RST's touch CRC_STATE. -/
theorem onlyCrcWritesChangeCrcState : Obligations.OnlyCrcWritesChangeCrcState := by
  intro s t h hne
  cases step_effect h with
  | host hin hd he =>
    obtain ⟨d, hi⟩ := he.crcWrite_of_crcState_ne hne
    exact .inl ⟨_, _, d, hin, by simpa only [hd, Except.ok.injEq] using hi⟩
  | reset hin => exact .inr ⟨_, hin⟩
  | _ => exact absurd rfl hne

/-- Settles O44: of the effects of a step only completion's and RST's touch LAST_CRC. -/
theorem lastCrcChangesOnlyAtCompletion : Obligations.LastCrcChangesOnlyAtCompletion := by
  intro s t h hne
  cases step_effect h with
  | host _ _ he => exact absurd he.lastCrc_eq hne
  | complete _ inFrame last => exact .inl ⟨inFrame, rfl, last, rfl⟩
  | reset hin => exact .inr ⟨_, hin, rfl⟩
  | _ => exact absurd rfl hne

/-- Settles O46: the host's part of each clause is the effects of its instructions; of the other inputs only RST touches
the two flags, and it clears them. -/
theorem stickyErrorFlagCauses : Obligations.StickyErrorFlagCauses := by
  intro s t h
  refine ⟨fun h0 h1 => ?busySet, fun h0 h1 => ?cmdSet, fun h0 h1 => ?busyCleared, fun h0 h1 => ?cmdCleared⟩
  case busySet =>
    cases step_effect h with
    | host hin hd he =>
      obtain ⟨inFrame, d, hi⟩ := he.busyErr_set h0 h1
      exact ⟨inFrame, _, _, d, hin, by simpa only [hd, Except.ok.injEq] using hi⟩
    | reset => exact nomatch h1
    | _ => exact nomatch h0.symm.trans h1
  case cmdSet =>
    cases step_effect h with
    | host hin hd he =>
      obtain ⟨d, hi⟩ := he.cmdErr_set h0 h1
      exact ⟨_, _, _, d, hin, hd, (encode_of_mem_reservedCommands _ hi).trans (packWrite_eq_txnWord 0x04#8 d).symm,
        opcode_of_mem_reservedCommands _ hi (decodeAccess_wellFormed hd)⟩
    | reset => exact nomatch h1
    | _ => exact nomatch h0.symm.trans h1
  case busyCleared =>
    cases step_effect h with
    | host hin hd he =>
      obtain ⟨d, rfl, bit⟩ := he.busyErr_cleared h0 h1
      exact ⟨_, .inr ⟨_, d, hin, hd, bit⟩⟩
    | reset hin => exact ⟨_, .inl hin⟩
    | _ => exact nomatch h0.symm.trans h1
  case cmdCleared =>
    cases step_effect h with
    | host hin hd he =>
      obtain ⟨d, rfl, bit⟩ := he.cmdErr_cleared h0 h1
      exact ⟨_, .inr ⟨_, d, hin, hd, bit⟩⟩
    | reset hin => exact ⟨_, .inl hin⟩
    | _ => exact nomatch h0.symm.trans h1

/-- Settles O47: as O46, with the two ends of a frame setting DONE and a failing handshake setting TX_FAIL. -/
theorem resultFlagCauses : Obligations.ResultFlagCauses := by
  intro s t h
  refine ⟨fun h0 h1 => ?doneSet, fun h0 h1 => ?txFailSet, fun h0 h1 => ?lenErrSet, fun h0 h1 => ?doneCleared⟩
  case doneSet =>
    cases step_effect h with
    | host hin hd he =>
      obtain ⟨idle, len, d, rfl⟩ := he.done_set h0 h1
      exact .inr ⟨idle, len, _, _, d, hin, hd⟩
    | fail _ inFrame | complete _ inFrame => exact .inl ⟨inFrame, rfl⟩
    | reset => exact nomatch h1
    | _ => exact nomatch h0.symm.trans h1
  case txFailSet =>
    cases step_effect h with
    | host _ _ he => exact nomatch (he.txFail_unset h0).symm.trans h1
    | fail hin inFrame => exact ⟨inFrame, _, hin⟩
    | reset => exact nomatch h1
    | _ => exact nomatch h0.symm.trans h1
  case lenErrSet =>
    cases step_effect h with
    | host hin hd he =>
      obtain ⟨idle, long, d, rfl⟩ := he.lenErr_set h0 h1
      exact ⟨idle, long, _, _, d, hin, hd⟩
    | reset => exact nomatch h1
    | _ => exact nomatch h0.symm.trans h1
  case doneCleared =>
    cases step_effect h with
    | host hin hd he =>
      obtain started | ⟨d, rfl, bit⟩ := he.done_cleared h0 h1
      · exact .inl started
      · exact .inr ⟨_, .inr ⟨_, d, hin, hd, bit⟩⟩
    | reset hin => exact .inr ⟨_, .inl hin⟩
    | fail | complete => exact nomatch h1
    | _ => exact nomatch h0.symm.trans h1

/-- Settles O48: of the effects of a step only a pixel write's and RST's touch the list of written bytes, and none touches
PIXBUF_AW. -/
theorem pixelBufferChangesOnlyByItsWrites : Obligations.PixelBufferChangesOnlyByItsWrites := by
  intro s t h
  cases step_effect h with
  | host hin hd he =>
    refine ⟨he.config_eq, fun hne => .inr ?_⟩
    obtain ⟨idle, d, hi⟩ := he.pixelWrite_of_pixbuf_ne hne
    exact ⟨idle, _, _, d, hin, by simpa only [hd, Except.ok.injEq] using hi⟩
  | reset hin => exact ⟨rfl, fun _ => .inl ⟨_, hin⟩⟩
  | _ => exact ⟨rfl, fun hne => absurd rfl hne⟩

end Sys2Proof.Machine
end

section
/-! The accesses the host port refuses (20_memory.md R66; 60_exceptions.md R246). -/

namespace Sys2Proof

theorem txnOff_toNat (t : TxnWord) : (txnOff t).toNat = t.toNat / 2 ^ 32 % 256 := by
  rw [txnOff, BitVec.extractLsb'_toNat, Nat.shiftRight_eq_div_pow]

/-- The port carries an access of 32 bits with OFF[1:0] = 00 and no other (30_encoding.md R81). -/
theorem decodeAccess_eq_error_iff (a : HostAccess) :
    (∃ e, decodeAccess a = .error e) ↔ a.width ≠ 32 ∨ a.txn.toNat / 2 ^ 32 % 4 ≠ 0 := by
  have aligned : (txnOff a.txn).toNat % 4 = a.txn.toNat / 2 ^ 32 % 4 := by rw [txnOff_toNat]; omega
  rw [← aligned]
  by_cases width : a.width = 32
  · by_cases word : (txnOff a.txn).toNat % 4 = 0
    · cases write : txnIsWrite a.txn <;> simp [decodeAccess, decode, width, word, write]
    · simp [decodeAccess, decode, width, word]
  · simp [decodeAccess, width]

end Sys2Proof

namespace Sys2Proof.Machine

/-- No instruction is refused, so a step is refused only before one is decoded. -/
theorem step_refused_iff (s : State) :
    (∃ r, step s = .refused r) ↔ ∃ a rest, s.inputs = .host a :: rest ∧ ∃ e, decodeAccess a = .error e := by
  constructor
  · rintro ⟨r, hr⟩
    obtain ⟨-, hs⟩ | ⟨a, rest, e, hin, he, -⟩ | ⟨a, rest, i, -, -, hs⟩ | ⟨_, _, _, -, hs⟩ | ⟨_, -, hs⟩ := step_cases s
    case inr.inl => exact ⟨a, rest, hin, e, he⟩
    case inr.inr.inl =>
      obtain ⟨t, ht, -⟩ := exec_effect i (s.setInputs rest)
      exact nomatch hr.symm.trans (hs.trans ht)
    all_goals exact nomatch hr.symm.trans hs
  · rintro ⟨a, rest, hin, e, he⟩
    exact ⟨refusalOf e, by simp only [step, hin, runInput, runHost, he]⟩

/-- Settles O53: a step is refused where its access does not decode, and those are the accesses the port does not carry. -/
theorem refusesExactlyUncarriedAccesses : Obligations.RefusesExactlyUncarriedAccesses := by
  intro s
  simp only [step_refused_iff, decodeAccess_eq_error_iff]

end Sys2Proof.Machine
end

section
/-! What a read leaves alone and what a repeated write leaves alone (20_memory.md R69). -/

namespace Sys2Proof.Machine

/-- Settles O6: each read answers through `respond`, which touches the record of RDATA alone; the writes have W = 1. -/
theorem readsChangeNoBlockState : Obligations.ReadsChangeNoBlockState := by
  intro i s read
  cases i with
  | rdId | rdCmd | rdStatus | rdChannel | rdRectype | rdColorOrder | rdPixelCount | rdFrequency | rdBrightness | rdBufLen
  | rdPbAddr | rdPbData | rdPbData8 | rdCrcInit | rdCrcData | rdCrcResult | rdCrcState | rdLastCrc | rdTxCount
  | rdReserved4C | rdReserved505C | rdReserved607C | rdReserved80FC => exact ⟨_, rfl⟩
  | _ => simp [isRead, encode] at read

/-- An instruction whose update is idempotent leaves the state it has left. -/
theorem exec_again {i : Instr} {s t : State} (f : State → State) (runs : ∀ u, exec i u = .next (f u))
    (idem : ∀ u, f (f u) = f u) (h : exec i s = .next t) : exec i t = .next t := by
  obtain rfl : f s = t := Host.Outcome.next.inj ((runs s).symm.trans h)
  rw [runs, idem]

/-- Settles O11: each of the eight writes is a setter; the legal values that BUF_LEN and PB_ADDR take depend on DATA and
PIXBUF_BYTES alone. -/
theorem argumentWritesAreIdempotent : Obligations.ArgumentWritesAreIdempotent := by
  intro i d s t hi h
  simp only [List.mem_cons, List.not_mem_nil, or_false] at hi
  obtain rfl | rfl | rfl | rfl | rfl | rfl | rfl | rfl := hi
  · exact exec_again (State.setChannel (operand8 d)) (fun _ => rfl) (fun _ => rfl) h
  · exact exec_again (State.setRectype (operand8 d)) (fun _ => rfl) (fun _ => rfl) h
  · exact exec_again (State.setColorOrder (operand8 d)) (fun _ => rfl) (fun _ => rfl) h
  · exact exec_again (State.setPixelCount (operand16 d)) (fun _ => rfl) (fun _ => rfl) h
  · exact exec_again (State.setFrequency d) (fun _ => rfl) (fun _ => rfl) h
  · exact exec_again (State.setBrightness (operand8 d)) (fun _ => rfl) (fun _ => rfl) h
  · exact exec_again (fun u => u.setBufLen (bufLenOperand u d)) (fun _ => rfl) (fun _ => rfl) h
  · exact exec_again (fun u => u.setPbAddr (pbAddrOperand u d)) (fun _ => rfl) (fun _ => rfl) h

end Sys2Proof.Machine
end

section
/-! The frame in progress under host transactions (20_memory.md R72), and what WIRE gains in a step (R63). -/

namespace Sys2Proof.Machine

theorem HostEffect.seqState_of_frame {s t : State} {i : Instr} (h : HostEffect s i t) (inFrame : s.seqState = .frame) :
    t.seqState = .frame := by
  obtain same | ⟨idle, -⟩ := h.seqState
  · exact same.trans inFrame
  · exact nomatch inFrame.symm.trans idle

theorem State.KeepsFrame.byteAt {s t : State} (h : s.KeepsFrame t) (p : Nat) :
    Machine.byteAt t p = Machine.byteAt s p := by
  simp only [Machine.byteAt, h.frameBody, h.frameCrc]

theorem offered_of_frame {s : State} (inFrame : s.seqState = .frame) : offered s = some (byteAt s s.seqPos) := by
  simp [offered, txValid, inFrame]

theorem State.KeepsFrame.offered {s t : State} (h : s.KeepsFrame t) (hs : s.seqState = .frame) (ht : t.seqState = .frame) :
    Machine.offered t = Machine.offered s := by
  rw [offered_of_frame hs, offered_of_frame ht, h.seqPos, h.byteAt]

/-- Settles O40: the instruction's effect keeps all that the frame in progress and the offered byte are computed from. -/
theorem hostCannotDisturbTheFrame : Obligations.HostCannotDisturbTheFrame := by
  intro i s t inFrame h
  obtain ⟨u, hu, effect⟩ := exec_effect i s
  obtain rfl : u = t := Host.Outcome.next.inj (hu.symm.trans h)
  have kept := effect.keepsFrame inFrame
  have stillInFrame := effect.seqState_of_frame inFrame
  exact ⟨stillInFrame, kept.fc, kept.pixbuf, kept.frameCrc, kept.seqPos, kept.txCount, effect.lastCrc_eq, kept.wire,
    kept.frameBytes, kept.offered inFrame stillInFrame⟩

theorem HostEffect.wire_eq {s t : State} {i : Instr} (h : HostEffect s i t) : t.wire = s.wire := by cases h <;> rfl

/-- Body byte, checksum byte or last byte: the wire takes the byte on offer (42_frame_encoder.md R169). -/
theorem acceptByte_wire (s : State) : (acceptByte s).wire = s.wire ++ [byteAt s s.seqPos] := by
  obtain ⟨-, h⟩ | ⟨-, -, h⟩ | ⟨-, h⟩ := acceptByte_cases s <;> rw [h] <;> rfl

/-- Settles O41, by the kinds of step: of them only an accepting handshake touches WIRE. -/
theorem wireGrowsOnlyByAcceptedBytes : Obligations.WireGrowsOnlyByAcceptedBytes := by
  intro s t h
  obtain ⟨-, hs⟩ | ⟨_, _, _, -, -, hs⟩ | ⟨_, rest, i, -, -, hs⟩ | ⟨r, e, rest, hin, hs⟩ | ⟨_, -, hs⟩ :=
    step_cases s <;> rw [hs] at h
  case inr.inl => cases h
  case inr.inr.inl =>
    obtain ⟨u, hu, effect⟩ := exec_effect i (s.setInputs rest)
    cases hu.symm.trans h
    exact .inl effect.wire_eq
  case inr.inr.inr.inl =>
    cases h
    obtain ⟨-, ht⟩ | ⟨-, -, -, ht⟩ | ⟨inFrame, rfl, rfl, ht⟩ := transportStep_cases r e (s.setInputs rest) <;> rw [ht]
    · exact .inl rfl
    · exact .inl rfl
    · exact .inr ⟨_, rest, hin, offered_of_frame inFrame, acceptByte_wire _⟩
  all_goals
    cases h
    exact .inl rfl

end Sys2Proof.Machine
end

section
/-! A frame in progress completes however host transactions and stalls are interleaved with the transport's accepts (R72,
R79, R291): each harmless input before the last accept keeps the frame and what the wire will hold at its end. -/

namespace Sys2Proof.Machine

/-! ### The length of a frame -/

theorem body_length (c : FrameContext) (pb : Nat → Byte) : (body c pb).length = bodyLength c := by
  simp only [body, header, magic, descriptor, payload, bodyLength]
  cases recordType c.rt <;> simp [le16, le32, apaPixel] <;> omega

theorem bodyLength_le (c : FrameContext) : bodyLength c ≤ 262153 := by
  have count_lt : c.n.toNat < 65536 := c.n.isLt
  unfold bodyLength
  split <;> omega

/-- TX_COUNT, 32 bits wide, can count a whole frame (30_encoding.md R109). -/
theorem State.frameBody_length_lt (s : State) : s.frameBody.length + 4 < 2 ^ 32 := by
  have bound := bodyLength_le s.fc
  rw [State.frameBody, body_length]
  omega

theorem State.frameBytes_length (s : State) : s.frameBytes.length = s.frameBody.length + 4 := by
  rw [s.frameBytes_eq, List.length_append]
  rfl

/-! ### What the wire holds at the frame's end -/

/-- WIRE with the rest of the frame in progress. -/
def State.wireAtEnd (s : State) : List Byte := s.wire ++ s.frameBytes.drop s.seqPos

/-- The byte on offer is the next of what the wire is still to take. -/
theorem State.FrameOk.wireAtEnd_eq {s : State} (h : s.FrameOk) :
    s.wireAtEnd = s.wire ++ [byteAt s s.seqPos] ++ s.frameBytes.drop (s.seqPos + 1) := by
  rw [State.wireAtEnd, List.drop_eq_getElem?_toList_append, h.frameBytes_seqPos, List.append_assoc]
  rfl

/-- `t` is `s` some inputs later, in the same frame with `n` more of its bytes accepted. -/
structure State.Advances (n : Nat) (s t : State) : Prop where
  seqState  : t.seqState = .frame
  frameBody : t.frameBody = s.frameBody
  seqPos    : t.seqPos = s.seqPos + n
  wireAtEnd : t.wireAtEnd = s.wireAtEnd

theorem State.KeepsFrame.advances {s t : State} (h : s.KeepsFrame t) (inFrame : t.seqState = .frame) : s.Advances 0 t where
  seqState := inFrame
  frameBody := h.frameBody
  seqPos := h.seqPos
  wireAtEnd := by rw [State.wireAtEnd, h.wire, h.frameBytes, h.seqPos, State.wireAtEnd]

theorem State.setInputs_advances {s : State} (rest : List Input) (inFrame : s.seqState = .frame) :
    s.Advances 0 (s.setInputs rest) :=
  ⟨inFrame, rfl, rfl, rfl⟩

/-- An accepted byte before the last (42_frame_encoder.md R169). -/
theorem State.FrameOk.acceptByte_advances {s : State} (h : s.FrameOk) (inFrame : s.seqState = .frame)
    (more : s.seqPos + 1 ≠ s.frameBody.length + 4) : s.Advances 1 (acceptByte s) := by
  have due := h.wireAtEnd_eq.symm
  obtain ⟨-, ht⟩ | ⟨-, -, ht⟩ | ⟨last, -⟩ := acceptByte_cases s
  · exact ht ▸ ⟨inFrame, rfl, rfl, due⟩
  · exact ht ▸ ⟨inFrame, rfl, rfl, due⟩
  · exact absurd last more

/-! ### One input -/

theorem step_of_inputs {s : State} {e : Input} {rest : List Input} (hin : s.inputs = e :: rest) :
    step s = runInput e (s.setInputs rest) := by
  simp only [step, hin]

theorem HostEffect.inputs_eq {s t : State} {i : Instr} (h : HostEffect s i t) : t.inputs = s.inputs := by cases h <;> rfl

theorem acceptByte_inputs (s : State) : (acceptByte s).inputs = s.inputs := by
  obtain ⟨-, h⟩ | ⟨-, -, h⟩ | ⟨-, h⟩ := acceptByte_cases s <;> rw [h] <;> rfl

/-- A harmless input that is not the frame's last accept runs, and the frame goes on. -/
theorem runInput_harmless {s : State} {e : Input} (hs : s.Inv) (inFrame : s.seqState = .frame) (he : e.harmless)
    (more : e.accepts = true → s.seqPos + 1 ≠ s.frameBody.length + 4) :
    ∃ t, runInput e s = .next t ∧ t.inputs = s.inputs ∧ s.Advances (if e.accepts then 1 else 0) t := by
  cases e with
  | host a =>
    obtain ⟨i, hi⟩ := he
    obtain ⟨t, ht, effect⟩ := exec_effect i s
    exact ⟨t, by simp only [runInput, runHost, hi, ht], effect.inputs_eq,
      (effect.keepsFrame inFrame).advances (effect.seqState_of_frame inFrame)⟩
  | transport r e =>
    refine ⟨_, rfl, ?_⟩
    obtain ⟨idle | rfl, ht⟩ | ⟨-, ready, err, -⟩ | ⟨-, rfl, rfl, ht⟩ := transportStep_cases r e s
    · exact nomatch inFrame.symm.trans idle
    · exact ht.symm ▸ ⟨rfl, inFrame, rfl, rfl, rfl⟩
    · exact nomatch err.symm.trans (he ready)
    · exact ht.symm ▸ ⟨acceptByte_inputs s, (hs.frame inFrame).acceptByte_advances inFrame (more rfl)⟩
  | reset => exact he.elim

/-! ### The frame's end -/

/-- `t` is idle after the whole frame of `s`, with the results of R172. -/
structure State.Delivers (s t : State) : Prop where
  wire     : t.wire = s.wireAtEnd
  lastCrc  : t.lastCrc = crc32 s.frameBody
  txCount  : t.txCount.toNat = s.frameBody.length + 4
  seqState : t.seqState = .idle
  done     : t.status.done = true
  txFail   : t.status.txFail = false
  lenErr   : t.status.lenErr = false

theorem State.Advances.delivers {n : Nat} {s t u : State} (h : s.Advances n t) (hu : t.Delivers u) : s.Delivers u where
  wire := hu.wire.trans h.wireAtEnd
  lastCrc := h.frameBody ▸ hu.lastCrc
  txCount := h.frameBody ▸ hu.txCount
  seqState := hu.seqState
  done := hu.done
  txFail := hu.txFail
  lenErr := hu.lenErr

/-- The last byte's accept (42_frame_encoder.md R172). -/
theorem State.FrameOk.acceptByte_delivers {s : State} (h : s.FrameOk) (last : s.seqPos + 1 = s.frameBody.length + 4) :
    s.Delivers (acceptByte s) := by
  obtain ⟨hbody, -⟩ | ⟨-, more, -⟩ | ⟨-, ht⟩ := acceptByte_cases s
  · omega
  · exact absurd last more
  rw [ht]
  refine ⟨?wire, ?lastCrc, ?txCount, rfl, rfl, h.txFail, h.lenErr⟩
  case wire =>
    have nothing_left : s.frameBytes.drop (s.seqPos + 1) = [] :=
      List.drop_eq_nil_of_le (by rw [s.frameBytes_length, last])
    rw [h.wireAtEnd_eq, nothing_left, List.append_nil]
    rfl
  case lastCrc =>
    show ~~~ s.frameCrc = crc32 s.frameBody
    rw [h.crc, List.take_of_length_le (by omega), crc32]
  case txCount =>
    have counted : s.txCount + 1 = BitVec.ofNat 32 (s.frameBody.length + 4) := by
      rw [← last, h.count, BitVec.ofNat_add]
      rfl
    show (s.txCount + 1).toNat = s.frameBody.length + 4
    rw [counted, BitVec.toNat_ofNat, Nat.mod_eq_of_lt s.frameBody_length_lt]

theorem runInput_last_accept {s : State} (hs : s.Inv) (inFrame : s.seqState = .frame)
    (last : s.seqPos + 1 = s.frameBody.length + 4) :
    ∃ t, runInput (.transport true false) s = .next t ∧ t.inputs = s.inputs ∧ s.Delivers t := by
  have accepted : transportStep true false s = acceptByte s := by simp [transportStep, txValid, inFrame]
  exact ⟨acceptByte s, congrArg Host.Outcome.next accepted, acceptByte_inputs s,
    (hs.frame inFrame).acceptByte_delivers last⟩

/-- The rest of a frame, by induction on the inputs before its last accept. -/
theorem run_delivers (rest l : List Input) {s : State} (hs : s.Inv) (inFrame : s.seqState = .frame)
    (hl : ∀ e ∈ l, e.harmless) (count : l.countP Input.accepts + s.seqPos = s.frameBody.length + 3)
    (hin : s.inputs = l ++ .transport true false :: rest) :
    ∃ t : State, Host.Core.run core (l.length + 1) s = .next t ∧ t.inputs = rest ∧ s.Delivers t := by
  induction l generalizing s with
  | nil =>
    have last : s.seqPos + 1 = s.frameBody.length + 4 := by simpa using count
    obtain ⟨t, ht, hrest, delivered⟩ := runInput_last_accept (hs.setInputs rest) inFrame last
    exact ⟨t, run_next core 0 ((step_of_inputs hin).trans ht), hrest,
      (State.setInputs_advances rest inFrame).delivers delivered⟩
  | cons e l ih =>
    obtain ⟨he, hl⟩ := List.forall_mem_cons.1 hl
    have more : e.accepts = true → s.seqPos + 1 ≠ s.frameBody.length + 4 := by
      intro accepts
      rw [List.countP_cons_of_pos accepts] at count
      omega
    obtain ⟨u, hu, hrest, goesOn⟩ := runInput_harmless (hs.setInputs (l ++ .transport true false :: rest)) inFrame he more
    have stepped : step s = .next u := (step_of_inputs hin).trans hu
    have count' : l.countP Input.accepts + u.seqPos = u.frameBody.length + 3 := by
      have pos : u.seqPos = s.seqPos + if e.accepts then 1 else 0 := goesOn.seqPos
      have sameBody : u.frameBody = s.frameBody := goesOn.frameBody
      rw [List.countP_cons] at count
      rw [pos, sameBody]
      omega
    obtain ⟨t, ht, hinputs, delivered⟩ := ih (stepKeepsInvariant s u hs stepped) goesOn.seqState hl count' hrest
    exact ⟨t, (run_next core _ stepped).trans ht, hinputs,
      (State.setInputs_advances _ inFrame).delivers (goesOn.delivers delivered)⟩

/-- Settles O45: the run delivers the frame, and what it delivers to WIRE is the rest of the frame. -/
theorem frameCompletesUnderAnyInterleaving : Obligations.FrameCompletesUnderAnyInterleaving := by
  intro s l rest hs inFrame hl count hin
  obtain ⟨t, ht, hinputs, delivered⟩ := run_delivers rest l hs inFrame hl count hin
  exact ⟨t, ht, hinputs, delivered.wire, delivered.lastCrc, delivered.txCount, delivered.seqState, delivered.done,
    delivered.txFail, delivered.lenErr⟩

end Sys2Proof.Machine
end

section
/-! The encoder and the decoder against each other, by the fields W, OFF and DATA of a transaction (30_encoding.md R80 to
R84). -/

namespace Sys2Proof

/-! ### Words and their fields -/

/-- R80: a transaction is its three fields. -/
theorem txnWord_fields (t : TxnWord) : txnWord (txnIsWrite t) (txnOff t) (txnData t) = t := by
  have write_bit : BitVec.ofBool (txnIsWrite t) = t.extractLsb' 40 1 := by
    apply BitVec.eq_of_getLsbD_eq
    simp [txnIsWrite]
  have write_off : BitVec.ofBool (txnIsWrite t) ++ txnOff t = t.extractLsb' 32 9 := by
    rw [write_bit]
    exact BitVec.extractLsb'_append_extractLsb'_eq_extractLsb' rfl
  have all : txnWord (txnIsWrite t) (txnOff t) (txnData t) = t.extractLsb' 0 41 := by
    rw [txnWord, write_off]
    exact BitVec.extractLsb'_append_extractLsb'_eq_extractLsb' rfl
  rw [all, BitVec.extractLsb'_eq_self]

theorem decode_txnWord_write {off : Byte} (data : Word) (aligned : off.toNat % 4 = 0) :
    decode (txnWord true off data) = .ok (decodeWrite off data) := by
  simp [decode, aligned]

theorem decode_txnWord_read {off : Byte} (data : Word) (aligned : off.toNat % 4 = 0) :
    decode (txnWord false off data) = .ok (decodeRead off) := by
  simp [decode, aligned]

/-! ### Decoding an instruction's fields -/

theorem offsetIn_iff {lo hi : Nat} {off : Byte} :
    offsetIn lo hi off = true ↔ off.toNat % 4 = 0 ∧ lo ≤ off.toNat ∧ off.toNat ≤ hi := by
  simp only [offsetIn, Bool.and_eq_true, decide_eq_true_eq, and_assoc]

theorem opcodeIn_iff {lo hi : Nat} {data : Word} :
    opcodeIn lo hi data = true ↔ lo ≤ (txnOpcode data).toNat ∧ (txnOpcode data).toNat ≤ hi := by
  have same : txnOpcode data = opcodeOf data := rfl
  simp only [opcodeIn, same, Bool.and_eq_true, decide_eq_true_eq]

/-- The ten rows of the opcode table for a write of CMD (30_encoding.md R84). -/
def commands (data : Word) : List Instr := .cmdSendChannel data :: .cmdCommit data :: reservedCommands data

theorem encode_of_mem_commands {data : Word} : ∀ i ∈ commands data, encode i = txnWord true 0x04#8 data := by
  simp only [commands, List.forall_mem_cons]
  exact ⟨rfl, rfl, encode_of_mem_reservedCommands⟩

theorem decodeCommand_mem_commands (data : Word) : decodeCommand data ∈ commands data := by
  simp only [decodeCommand, commands, reservedCommands]
  split_ifs <;> simp

/-- R84: the OPCODE ranges of the CMD rows are the decoder's. -/
theorem decodeCommand_of_mem_commands {data : Word} :
    ∀ i ∈ commands data, i.wellFormed = true → decodeCommand data = i := by
  simp only [commands, reservedCommands, List.forall_mem_cons, Instr.wellFormed, opcodeIn_iff, decodeCommand]
  refine ⟨?_, ?_, ?_, ?_, ?_, ?_, ?_, ?_, ?_, ?_, nofun⟩ <;>
    · rintro ⟨low, high⟩
      simp (disch := omega) only [if_pos, if_neg]

theorem decodeRead_of_high {off : Byte} (high : 0x4C ≤ off.toNat) : decodeRead off = decodeReservedRead off := by
  unfold decodeRead
  split
  case h_20 => rfl
  all_goals omega

theorem decodeWrite_of_high {off : Byte} (data : Word) (high : 0x4C ≤ off.toNat) :
    decodeWrite off data = decodeReservedWrite off data := by
  unfold decodeWrite
  split
  case h_20 => rfl
  all_goals omega

theorem decode_encode_of_mem_commands {data : Word} {i : Instr} (hi : i ∈ commands data) (hwf : i.wellFormed = true) :
    decode (encode i) = .ok i := by
  rw [encode_of_mem_commands i hi, decode_txnWord_write data (by decide)]
  exact congrArg Except.ok (decodeCommand_of_mem_commands i hi hwf)

/-- A read of an offset in a reserved range decodes as the decoder's reserved part answers in that range (R229). -/
theorem decode_read_of_offsetIn {lo hi : Nat} {off : Byte} {i : Instr} (hoff : offsetIn lo hi off = true)
    (hlo : 0x4C ≤ lo) (h : lo ≤ off.toNat → off.toNat ≤ hi → decodeReservedRead off = i) :
    decode (txnWord false off 0#32) = .ok i := by
  obtain ⟨aligned, low, high⟩ := offsetIn_iff.1 hoff
  rw [decode_txnWord_read _ aligned, decodeRead_of_high (hlo.trans low), h low high]

/-- The write of the same offset (R230). -/
theorem decode_write_of_offsetIn {lo hi : Nat} {off : Byte} {data : Word} {i : Instr} (hoff : offsetIn lo hi off = true)
    (hlo : 0x4C ≤ lo) (h : lo ≤ off.toNat → off.toNat ≤ hi → decodeReservedWrite off data = i) :
    decode (txnWord true off data) = .ok i := by
  obtain ⟨aligned, low, high⟩ := offsetIn_iff.1 hoff
  rw [decode_txnWord_write _ aligned, decodeWrite_of_high _ (hlo.trans low), h low high]

/-- Settles O55: an instruction of a fixed offset decodes by evaluation, a write of CMD by its OPCODE's range, and one of a
reserved range by its offset's. -/
theorem decodeOfEncode : Obligations.DecodeOfEncode := by
  intro i hwf
  cases i with
  | rdId | rdCmd | rdStatus | rdChannel | rdRectype | rdColorOrder | rdPixelCount | rdFrequency | rdBrightness | rdBufLen
  | rdPbAddr | rdPbData | rdPbData8 | rdCrcInit | rdCrcData | rdCrcResult | rdCrcState | rdLastCrc | rdTxCount
  | rdReserved4C => exact decode_txnWord_read 0#32 (by decide)
  | wrId d | wrStatus d | wrChannel d | wrRectype d | wrColorOrder d | wrPixelCount d | wrFrequency d | wrBrightness d
  | wrBufLen d | wrPbAddr d | wrPbData d | wrPbData8 d | wrCrcInit d | wrCrcData d | wrCrcResult d | wrCrcState d
  | wrLastCrc d | wrTxCount d | wrReserved4C d => exact decode_txnWord_write d (by decide)
  | cmdSendChannel d | cmdCommit d | cmdReserved00 d | cmdReserved03 d | cmdReserved0407 d | cmdReserved080F d
  | cmdReserved101F d | cmdReserved203F d | cmdReserved407F d | cmdReserved80FF d =>
    exact decode_encode_of_mem_commands (data := d) (by simp [commands, reservedCommands]) hwf
  | rdReserved505C off | rdReserved607C off | rdReserved80FC off =>
    refine decode_read_of_offsetIn hwf (by decide) fun low high => ?_
    simp (disch := omega) only [decodeReservedRead, if_pos, if_neg]
  | wrReserved505C off d | wrReserved607C off d | wrReserved80FC off d =>
    refine decode_write_of_offsetIn hwf (by decide) fun low high => ?_
    simp (disch := omega) only [decodeReservedWrite, if_pos, if_neg]

/-! ### Encoding a decoded instruction -/

/-- An aligned offset is the first of its word slot. -/
theorem eq_ofNat_of_slot {off : Byte} {k : Nat} (aligned : off.toNat % 4 = 0) (slot : off.toNat / 4 = k) :
    off = BitVec.ofNat 8 (4 * k) := by
  have first : off.toNat = 4 * k := by omega
  rw [← first, BitVec.ofNat_toNat, BitVec.setWidth_eq]

theorem encode_decodeReservedRead {off : Byte} (aligned : off.toNat % 4 = 0) (high : 0x4C ≤ off.toNat) :
    encode (decodeReservedRead off) = txnWord false off 0#32 := by
  unfold decodeReservedRead
  split_ifs with low
  case pos => rw [eq_ofNat_of_slot (k := 0x13) aligned (by omega)]; rfl
  all_goals rfl

theorem encode_decodeReservedWrite {off : Byte} (data : Word) (aligned : off.toNat % 4 = 0) (high : 0x4C ≤ off.toNat) :
    encode (decodeReservedWrite off data) = txnWord true off data := by
  unfold decodeReservedWrite
  split_ifs with low
  case pos => rw [eq_ofNat_of_slot (k := 0x13) aligned (by omega)]; rfl
  all_goals rfl

theorem encode_decodeRead {off : Byte} (aligned : off.toNat % 4 = 0) :
    encode (decodeRead off) = txnWord false off 0#32 := by
  unfold decodeRead
  split
  case h_20 =>
    simp only [imp_false] at *
    exact encode_decodeReservedRead aligned (by omega)
  all_goals
    rename_i slot
    rw [eq_ofNat_of_slot aligned slot]
    rfl

theorem encode_decodeWrite {off : Byte} (data : Word) (aligned : off.toNat % 4 = 0) :
    encode (decodeWrite off data) = txnWord true off data := by
  unfold decodeWrite
  split
  case h_20 =>
    simp only [imp_false] at *
    exact encode_decodeReservedWrite data aligned (by omega)
  case h_2 slot =>
    rw [eq_ofNat_of_slot aligned slot]
    exact encode_of_mem_commands _ (decodeCommand_mem_commands data)
  all_goals
    rename_i slot
    rw [eq_ofNat_of_slot aligned slot]
    rfl

/-- A word that decodes is the transaction of its instruction, but for DATA where it is a read (notes/assumptions/9.md). -/
theorem encode_of_decode {t : TxnWord} {i : Instr} (h : decode t = .ok i) :
    encode i = txnWord (txnIsWrite t) (txnOff t) (if txnIsWrite t then txnData t else 0#32) := by
  unfold decode at h
  split_ifs at h with aligned write <;> obtain rfl := Except.ok.inj h
  · rw [write, encode_decodeWrite _ aligned, if_pos rfl]
  · rw [Bool.eq_false_iff.2 write, encode_decodeRead aligned, if_neg (by decide)]

theorem txnData_toNat (t : TxnWord) : (txnData t).toNat = t.toNat % 2 ^ 32 := by
  simp [txnData]

/-- Settles O56: a word is its three fields, and the condition says that the DATA of a read is 0. -/
theorem encodeOfDecode : Obligations.EncodeOfDecode := by
  intro t i h data
  have kept : (if txnIsWrite t then txnData t else 0#32) = txnData t := by
    split_ifs with write
    · rfl
    · have zero : t.toNat % 2 ^ 32 = 0 := data.resolve_left write
      exact BitVec.eq_of_toNat_eq (by rw [txnData_toNat, zero]; rfl)
  rw [encode_of_decode h, kept, txnWord_fields]

end Sys2Proof
end

section
/-! The rows of the opcode table: every aligned word is covered by one, its instruction's own (30_encoding.md R82). -/

namespace Sys2Proof

theorem OpcodeRow.covers_iff {r : OpcodeRow} {t : TxnWord} : r.covers t = true ↔ t &&& r.mask = r.pattern := by
  simp [OpcodeRow.covers]

/-- No word can match two rows: where both masks look, their patterns differ. -/
theorem opcodeTable_patterns_differ :
    opcodeTable.Pairwise fun r r' => r.pattern &&& r'.mask ≠ r'.pattern &&& r.mask := by
  decide

theorem opcodeTable_disjoint (t : TxnWord) :
    opcodeTable.Pairwise fun r r' => ¬ (r.covers t = true ∧ r'.covers t = true) := by
  refine opcodeTable_patterns_differ.imp fun {r r'} differ => ?_
  rintro ⟨h, h'⟩
  rw [OpcodeRow.covers_iff] at h h'
  exact differ (by rw [← h, ← h', BitVec.and_assoc, BitVec.and_assoc, BitVec.and_comm r.mask])

/-- A row whose W is 0 does not look at DATA. -/
theorem opcodeTable_readRow_ignores_data :
    ∀ r ∈ opcodeTable, txnIsWrite r.pattern = true ∨ txnData r.mask = 0#32 := by
  decide

theorem OpcodeRow.covers_read {r : OpcodeRow} (hr : r ∈ opcodeTable) {off : Byte} {d : Word} (d' : Word)
    (h : r.covers (txnWord false off d) = true) : r.covers (txnWord false off d') = true := by
  rw [OpcodeRow.covers_iff, ← txnWord_fields r.mask, txnWord_and] at h ⊢
  obtain write | ignored := opcodeTable_readRow_ignores_data r hr
  · rw [← h] at write
    simp at write
  · rw [← h, ignored, BitVec.and_zero, BitVec.and_zero]

/-- The family RowMatch over every instruction. -/
theorem rowMatch : (i : Instr) → Laws.RowMatch.Statement i
  | .rdId => Laws.RowMatch.rdId
  | .wrId d => Laws.RowMatch.wrId d
  | .rdCmd => Laws.RowMatch.rdCmd
  | .cmdSendChannel d => Laws.RowMatch.cmdSendChannel d
  | .cmdCommit d => Laws.RowMatch.cmdCommit d
  | .cmdReserved00 d => Laws.RowMatch.cmdReserved00 d
  | .cmdReserved03 d => Laws.RowMatch.cmdReserved03 d
  | .cmdReserved0407 d => Laws.RowMatch.cmdReserved0407 d
  | .cmdReserved080F d => Laws.RowMatch.cmdReserved080F d
  | .cmdReserved101F d => Laws.RowMatch.cmdReserved101F d
  | .cmdReserved203F d => Laws.RowMatch.cmdReserved203F d
  | .cmdReserved407F d => Laws.RowMatch.cmdReserved407F d
  | .cmdReserved80FF d => Laws.RowMatch.cmdReserved80FF d
  | .rdStatus => Laws.RowMatch.rdStatus
  | .wrStatus d => Laws.RowMatch.wrStatus d
  | .rdChannel => Laws.RowMatch.rdChannel
  | .wrChannel d => Laws.RowMatch.wrChannel d
  | .rdRectype => Laws.RowMatch.rdRectype
  | .wrRectype d => Laws.RowMatch.wrRectype d
  | .rdColorOrder => Laws.RowMatch.rdColorOrder
  | .wrColorOrder d => Laws.RowMatch.wrColorOrder d
  | .rdPixelCount => Laws.RowMatch.rdPixelCount
  | .wrPixelCount d => Laws.RowMatch.wrPixelCount d
  | .rdFrequency => Laws.RowMatch.rdFrequency
  | .wrFrequency d => Laws.RowMatch.wrFrequency d
  | .rdBrightness => Laws.RowMatch.rdBrightness
  | .wrBrightness d => Laws.RowMatch.wrBrightness d
  | .rdBufLen => Laws.RowMatch.rdBufLen
  | .wrBufLen d => Laws.RowMatch.wrBufLen d
  | .rdPbAddr => Laws.RowMatch.rdPbAddr
  | .wrPbAddr d => Laws.RowMatch.wrPbAddr d
  | .rdPbData => Laws.RowMatch.rdPbData
  | .wrPbData d => Laws.RowMatch.wrPbData d
  | .rdPbData8 => Laws.RowMatch.rdPbData8
  | .wrPbData8 d => Laws.RowMatch.wrPbData8 d
  | .rdCrcInit => Laws.RowMatch.rdCrcInit
  | .wrCrcInit d => Laws.RowMatch.wrCrcInit d
  | .rdCrcData => Laws.RowMatch.rdCrcData
  | .wrCrcData d => Laws.RowMatch.wrCrcData d
  | .rdCrcResult => Laws.RowMatch.rdCrcResult
  | .wrCrcResult d => Laws.RowMatch.wrCrcResult d
  | .rdCrcState => Laws.RowMatch.rdCrcState
  | .wrCrcState d => Laws.RowMatch.wrCrcState d
  | .rdLastCrc => Laws.RowMatch.rdLastCrc
  | .wrLastCrc d => Laws.RowMatch.wrLastCrc d
  | .rdTxCount => Laws.RowMatch.rdTxCount
  | .wrTxCount d => Laws.RowMatch.wrTxCount d
  | .rdReserved4C => Laws.RowMatch.rdReserved4C
  | .rdReserved505C o => Laws.RowMatch.rdReserved505C o
  | .rdReserved607C o => Laws.RowMatch.rdReserved607C o
  | .rdReserved80FC o => Laws.RowMatch.rdReserved80FC o
  | .wrReserved4C d => Laws.RowMatch.wrReserved4C d
  | .wrReserved505C o d => Laws.RowMatch.wrReserved505C o d
  | .wrReserved607C o d => Laws.RowMatch.wrReserved607C o d
  | .wrReserved80FC o d => Laws.RowMatch.wrReserved80FC o d

/-- A row of the table with the instruction's mnemonic covers every word that decodes to it. -/
theorem exists_row_of_decode {t : TxnWord} {i : Instr} (h : decode t = .ok i) :
    ∃ r ∈ opcodeTable, r.mnemonic = i.mnemonic ∧ r.covers t = true := by
  obtain ⟨r, hr, name, covers⟩ := rowMatch i (decode_wellFormed h)
  refine ⟨r, hr, name, ?_⟩
  rw [encode_of_decode h] at covers
  rw [← txnWord_fields t]
  cases write : txnIsWrite t <;> rw [write] at covers
  · exact r.covers_read hr _ covers
  · exact covers

/-- Where no two entries pass a test, one that passes it is all that the test keeps. -/
theorem filter_eq_singleton_of_pairwise {α : Type*} {p : α → Bool} {l : List α} {a : α}
    (hl : l.Pairwise fun x y => ¬ (p x = true ∧ p y = true)) (ha : a ∈ l) (hp : p a = true) : l.filter p = [a] := by
  induction l with
  | nil => exact (List.not_mem_nil ha).elim
  | cons x l ih =>
    obtain ⟨hx, hl⟩ := List.pairwise_cons.1 hl
    obtain rfl | ha := List.mem_cons.1 ha
    · rw [List.filter_cons_of_pos hp, List.filter_eq_nil_iff.2 fun y hy py => hx y hy ⟨hp, py⟩]
    · rw [List.filter_cons_of_neg fun px => hx a ha ⟨px, hp⟩, ih hl ha]

/-- R82: the decode is total on aligned words. -/
theorem decode_of_aligned {t : TxnWord} (aligned : t.toNat / 2 ^ 32 % 4 = 0) : ∃ i, decode t = .ok i := by
  have slot : (txnOff t).toNat % 4 = 0 := by rw [txnOff_toNat]; omega
  rw [decode, if_pos slot]
  split <;> exact ⟨_, rfl⟩

/-- Settles O57: the row of the decoded instruction covers the word, and no two rows of the table cover one word. -/
theorem decodeNamesTheOneRow : Obligations.DecodeNamesTheOneRow := by
  intro t aligned
  obtain ⟨i, h⟩ := decode_of_aligned aligned
  obtain ⟨r, hr, name, covers⟩ := exists_row_of_decode h
  refine ⟨i, h, decode_wellFormed h, ?_⟩
  rw [filter_eq_singleton_of_pairwise (opcodeTable_disjoint t) hr covers, List.map_singleton, name]

end Sys2Proof
end

section
/-! The host port's step on a decoded access, and words of the spec's programs. -/

namespace Sys2Proof.Machine

/-- Settles O52: the host port runs what it decodes, and it decodes well-formed instructions only. -/
theorem stepRunsTheDecodedInstruction : Obligations.StepRunsTheDecodedInstruction := by
  intro s a rest i hin hd
  have runs : step s = exec i (s.setInputs rest) := by
    simp only [step_of_inputs hin, runInput, runHost, hd]
  exact ⟨decodeAccess_wellFormed hd, runs⟩

/-- Settles O54: ten fixed words, each by evaluating the decoder. -/
theorem listedWordsDecode : Obligations.ListedWordsDecode :=
  ⟨rfl, rfl, rfl, rfl, rfl, rfl, rfl, rfl, rfl, rfl⟩

end Sys2Proof.Machine
end

section
/-! The parts of a frame by record type: descriptor, lengths, and the commit frame (30_encoding.md R100 to R111). -/

namespace Sys2Proof.Machine

/-! ### Record types -/

/-- Everything an RT byte can be to the descriptor builder (30_encoding.md R90). -/
theorem recordType_cases (rt : Byte) :
    (rt = 1 ∧ recordType rt = .ws2812) ∨ (rt = 3 ∧ recordType rt = .apa102Data) ∨
    (rt = 4 ∧ recordType rt = .apa102Clock) ∨
    ((rt ≠ 1 ∧ rt ≠ 3 ∧ rt ≠ 4) ∧ (recordType rt = .drawAll ∨ recordType rt = .unrecognised)) := by
  unfold recordType
  split_ifs <;> simp_all

/-! ### Lengths -/

theorem bodyLength_eq (c : FrameContext) : bodyLength c =
    if c.rt = 1 then 10 + 3 * c.n.toNat else if c.rt = 3 then 13 + 4 * c.n.toNat else if c.rt = 4 then 10 else 6 := by
  unfold bodyLength
  obtain ⟨rt, type⟩ | ⟨rt, type⟩ | ⟨rt, type⟩ | ⟨⟨not1, not3, not4⟩, type | type⟩ := recordType_cases c.rt
  · rw [type, if_pos rt]
  · rw [type, rt]
    rfl
  · rw [type, rt]
    rfl
  · rw [type, if_neg not1, if_neg not3, if_neg not4]
  · rw [type, if_neg not1, if_neg not3, if_neg not4]

theorem frame_length (c : FrameContext) (pb : Nat → Byte) : (frame c pb).length = bodyLength c + 4 := by
  rw [frame, List.length_append, body_length]
  rfl

/-- Settles O30: four checksum bytes after a body whose length its type and FC_N give. -/
theorem frameLengths : Obligations.FrameLengths := by
  intro c pb
  have bound := bodyLength_le c
  rw [frame_length]
  refine ⟨?_, by omega⟩
  rw [bodyLength_eq]
  split_ifs <;> omega

/-! ### The descriptor -/

theorem byteOf_eq (v : Word) (k : Nat) : byteOf v k = (v >>> (8 * k)).setWidth 8 :=
  BitVec.setWidth_ushiftRight_eq_extractLsb.symm

theorem le32_eq (v : Word) :
    le32 v = [v.setWidth 8, (v >>> 8).setWidth 8, (v >>> 16).setWidth 8, (v >>> 24).setWidth 8] := by
  simp only [le32, byteOf_eq, Nat.mul_zero, Nat.mul_one, Nat.reduceMul, BitVec.ushiftRight_zero]

theorem le16_eq (v : Half) : le16 v = [v.setWidth 8, (v >>> 8).setWidth 8] := by
  simp only [le16, ← BitVec.setWidth_ushiftRight_eq_extractLsb, BitVec.ushiftRight_zero]

/-- The WS2812 descriptor (30_encoding.md R102; 41_descriptor.md R143). -/
theorem descriptor_ws2812 {c : FrameContext} (rt : c.rt = 1) : descriptor c = [elementCount, c.co] ++ le16 c.n := by
  rw [descriptor, rt]
  rfl

/-- The APA102_DATA descriptor (30_encoding.md R103; 41_descriptor.md R145). -/
theorem descriptor_apa102Data {c : FrameContext} (rt : c.rt = 3) :
    descriptor c = le32 c.freq ++ [colorWithoutWhite c.co] ++ le16 c.n := by
  rw [descriptor, rt]
  rfl

/-- The APA102_CLOCK descriptor (30_encoding.md R104; 41_descriptor.md R146). -/
theorem descriptor_apa102Clock {c : FrameContext} (rt : c.rt = 4) : descriptor c = le32 c.freq := by
  rw [descriptor, rt]
  rfl

/-- DRAW_ALL and every unrecognised type (41_descriptor.md R147, R148). -/
theorem descriptor_eq_nil {c : FrameContext} (not1 : c.rt ≠ 1) (not3 : c.rt ≠ 3) (not4 : c.rt ≠ 4) :
    descriptor c = [] := by
  obtain ⟨rt, -⟩ | ⟨rt, -⟩ | ⟨rt, -⟩ | ⟨-, type | type⟩ := recordType_cases c.rt
  · exact absurd rt not1
  · exact absurd rt not3
  · exact absurd rt not4
  · rw [descriptor, type]
  · rw [descriptor, type]

/-- Settles O28: the order of the parts is the frame's definition; the bytes are each type's descriptor with its fields
little-endian. -/
theorem headerAndDescriptorLayouts : Obligations.HeaderAndDescriptorLayouts := by
  intro c
  refine ⟨fun _ => rfl, rfl, fun rt => ?ws2812, fun rt => ?apa102Data, fun rt => ?apa102Clock, descriptor_eq_nil⟩
  case ws2812 =>
    rw [descriptor_ws2812 rt, le16_eq]
    rfl
  case apa102Data =>
    rw [descriptor_apa102Data rt, le32_eq, le16_eq]
    rfl
  case apa102Clock => rw [descriptor_apa102Clock rt, le32_eq]

/-! ### The commit frame -/

/-- A DRAW_ALL frame is its header and checksum (41_descriptor.md R147). -/
theorem body_drawAll {c : FrameContext} (pb : Nat → Byte) (rt : c.rt = 2) : body c pb = header c := by
  have type : recordType c.rt = .drawAll := by
    rw [rt]
    rfl
  simp only [body, descriptor, payload, type, List.append_nil]

/-- The header of every commit frame (30_encoding.md R111). -/
def commitHeader : List Byte := magic ++ [0xFF#8, 0x02#8]

theorem crc32_commitHeader : crc32 commitHeader = 0xDF81389B#32 := by decide

/-- Settles O32: the body is the commit header, whose checksum is evaluated. -/
theorem commitFrameBytes : Obligations.CommitFrameBytes := by
  intro c pb ch rt
  have commit : body c pb = commitHeader := by rw [body_drawAll pb rt, header, ch, rt, commitHeader]
  rw [frame, commit, crc32_commitHeader]
  rfl

end Sys2Proof.Machine
end

section
/-! The four forms of the byte fold (40_crc32.md R121 to R124). A shift step is linear over XOR, and bits that are shifted
out as 0 bring no POLY in: so each form is eight shift steps of the register XORed with the byte. -/

namespace Sys2Proof.Machine

/-! ### Shift steps -/

theorem crcShift_xor (a b : Word) : crcShift (a ^^^ b) = crcShift a ^^^ crcShift b := by
  have taps (p q : Bool) : (if p ^^ q then crcPoly else 0#32) =
      (if p then crcPoly else 0#32) ^^^ (if q then crcPoly else 0#32) := by
    cases p <;> cases q <;> rfl
  rw [crcShift, BitVec.getLsbD_xor, taps, BitVec.ushiftRight_xor_distrib, crcShift, crcShift]
  ac_rfl

theorem crcShifts_xor (k : Nat) (a b : Word) : crcShifts k (a ^^^ b) = crcShifts k a ^^^ crcShifts k b := by
  induction k generalizing a b with
  | zero => rfl
  | succ k ih =>
    rw [crcShifts, crcShift_xor]
    exact ih (crcShift a) (crcShift b)

theorem crcShifts_add (m k : Nat) (r : Word) : crcShifts (m + k) r = crcShifts k (crcShifts m r) := by
  induction m generalizing r with
  | zero => rw [Nat.zero_add, crcShifts]
  | succ m ih =>
    rw [Nat.succ_add]
    exact ih (crcShift r)

theorem crcShift_of_even {r : Word} (h : r.getLsbD 0 = false) : crcShift r = r >>> 1 := by
  rw [crcShift, h, if_neg Bool.false_ne_true, BitVec.xor_zero]

theorem crcShifts_of_low_zero {k : Nat} {r : Word} (h : ∀ i < k, r.getLsbD i = false) : crcShifts k r = r >>> k := by
  induction k generalizing r with
  | zero => rw [crcShifts, BitVec.ushiftRight_zero]
  | succ k ih =>
    have next_low : ∀ i < k, (r >>> 1).getLsbD i = false := fun i hi => by
      rw [BitVec.getLsbD_ushiftRight]
      exact h (1 + i) (by omega)
    rw [crcShifts, crcShift_of_even (h 0 k.succ_pos), ih next_low, ← BitVec.shiftRight_add, Nat.add_comm]

/-! ### A table step -/

theorem ushiftRight_xor_zext32 {w : Nat} (c : Word) (v : BitVec w) : (c ^^^ zext32 v) >>> w = c >>> w := by
  have shifted_out : zext32 v >>> w = 0#32 := by
    apply BitVec.eq_of_getLsbD_eq
    intro i hi
    simp [zext32]
  rw [BitVec.ushiftRight_xor_distrib, shifted_out, BitVec.xor_zero]

/-- A table step: only the low `w` bits, which index the table, can bring POLY in over `w` shift steps. -/
theorem crcShifts_eq_table_step (w : Nat) (r : Word) :
    crcShifts w r = (r >>> w) ^^^ crcShifts w (zext32 (r.setWidth w)) := by
  have high : crcShifts w (r ^^^ zext32 (r.setWidth w)) = r >>> w := by
    rw [crcShifts_of_low_zero, ushiftRight_xor_zext32]
    intro i hi
    by_cases fits : i < 32
    · simp [zext32, hi, fits]
    · exact BitVec.getLsbD_of_ge _ i (Nat.not_lt.1 fits)
  rw [← high, ← crcShifts_xor, BitVec.xor_assoc, BitVec.xor_self, BitVec.xor_zero]

/-- The table step with the data XORed into the index only, as R122 and form (b) of R124 write it. -/
theorem table_step_xor {w : Nat} (c : Word) (v : BitVec w) :
    (c >>> w) ^^^ crcShifts w (zext32 ((c ^^^ zext32 v).setWidth w)) = crcShifts w (c ^^^ zext32 v) := by
  rw [crcShifts_eq_table_step w (c ^^^ zext32 v), ushiftRight_xor_zext32]

/-! ### The forms of the fold -/

/-- R122: a nibble step is four shift steps. -/
theorem nstep_eq_crcShifts (c : Word) (n : BitVec 4) : nstep c n = crcShifts 4 (c ^^^ zext32 n) := table_step_xor c n

theorem zext32_setWidth_nibble (b : Byte) : (zext32 b).setWidth 4 = b.extractLsb' 0 4 := by
  apply BitVec.eq_of_getLsbD_eq
  intro i hi
  simp [zext32, hi]

theorem zext32_ushiftRight_nibble (b : Byte) : zext32 b >>> 4 = zext32 (b.extractLsb' 4 4) := by
  apply BitVec.eq_of_getLsbD_eq
  intro i hi
  by_cases low : i < 4
  · simp [zext32, hi, low]
    omega
  · have above : 8 ≤ 4 + i := by omega
    simp [zext32, low, BitVec.getLsbD_of_ge b _ above]

/-- R123: the high nibble XORed in after four steps is the byte XORed in whole before them. -/
theorem fold_eq_crcShifts (c : Word) (b : Byte) : fold c b = crcShifts 8 (c ^^^ zext32 b) := by
  have byte : crcShifts 4 (zext32 b) = zext32 (b.extractLsb' 4 4) ^^^ crcShifts 4 (zext32 (b.extractLsb' 0 4)) := by
    rw [crcShifts_eq_table_step 4 (zext32 b), zext32_ushiftRight_nibble, zext32_setWidth_nibble]
  rw [fold, nstep_eq_crcShifts, nstep_eq_crcShifts, crcShifts_add 4 4, crcShifts_xor 4 c, crcShifts_xor 4 c, byte,
    BitVec.xor_assoc, BitVec.xor_comm (zext32 _)]

theorem foldXorFirst_eq_crcShifts (c : Word) (b : Byte) : foldXorFirst c b = crcShifts 8 (c ^^^ zext32 b) := by
  rw [crcShifts_add 4 4, crcShifts_eq_table_step 4 (crcShifts 4 _), crcShifts_eq_table_step 4 (c ^^^ zext32 b)]
  rfl

theorem foldByteTable_eq_crcShifts (c : Word) (b : Byte) : foldByteTable c b = crcShifts 8 (c ^^^ zext32 b) :=
  table_step_xor c b

/-- Settles O24: every form is the eight shift steps of form (c). -/
theorem crcFoldFormsAgree : Obligations.CrcFoldFormsAgree := by
  intro c b
  rw [fold_eq_crcShifts]
  exact ⟨foldXorFirst_eq_crcShifts c b, foldByteTable_eq_crcShifts c b, rfl⟩

/-- Settles O22: the construction evaluated at each of the sixteen indices. -/
theorem nibbleTableHasTheListedValues : Obligations.NibbleTableHasTheListedValues := by
  unfold Obligations.NibbleTableHasTheListedValues
  decide

end Sys2Proof.Machine
end

section
/-! The host's checksum engine: its four instructions (40_crc32.md R127 to R130), and what a sequence of them computes
(R135). -/

namespace Sys2Proof.Machine

/-! ### The words of the engine's accesses -/

theorem decode_packWrite {off : Byte} (data : Word) (aligned : off.toNat % 4 = 0) :
    decode (packWrite off.toNat data) = .ok (decodeWrite off data) := by
  rw [packWrite_eq_txnWord, decode_txnWord_write data aligned]

theorem decode_writeCrcInit (d : Word) : decode (packWrite 0x34 d) = .ok (.wrCrcInit d) :=
  decode_packWrite (off := 0x34#8) d rfl

theorem decode_writeCrcData (d : Word) : decode (packWrite 0x38 d) = .ok (.wrCrcData d) :=
  decode_packWrite (off := 0x38#8) d rfl

theorem decode_readCrcResult : decode (packRead 0x3C) = .ok .rdCrcResult := rfl

theorem decode_readCrcState : decode (packRead 0x40) = .ok .rdCrcState := rfl

theorem operand8_eq_setWidth (d : Word) : operand8 d = d.setWidth 8 := byteOf_eq d 0

/-! ### The instructions -/

theorem exec_wrCrcInit (d : Word) (s : State) : exec (.wrCrcInit d) s = .next (s.setCrcState crcInit) := rfl

theorem exec_wrCrcData (d : Word) (s : State) :
    exec (.wrCrcData d) s = .next (s.setCrcState (fold s.crcState (d.setWidth 8))) := by
  rw [← operand8_eq_setWidth]
  rfl

theorem exec_rdCrcResult (s : State) : exec .rdCrcResult s = .next (s.respond (~~~ s.crcState)) := rfl

theorem exec_rdCrcState (s : State) : exec .rdCrcState s = .next (s.respond s.crcState) := rfl

/-- Settles O21: each word decodes by its fields, and its instruction sets CRC_STATE or answers RDATA. -/
theorem crcEngineInstructions : Obligations.CrcEngineInstructions := fun d s =>
  ⟨⟨decode_writeCrcInit d, exec_wrCrcInit d s⟩, ⟨decode_writeCrcData d, exec_wrCrcData d s⟩,
    ⟨decode_readCrcResult, exec_rdCrcResult s⟩, ⟨decode_readCrcState, exec_rdCrcState s⟩⟩

/-! ### A sequence of them -/

/-- The host writes one byte to CRC_DATA. -/
def crcDataAccess (b : Byte) : Input := .host (access (packWrite 0x38 (b.setWidth 32)))

/-- A run whose next input is an access of instruction `i`. -/
theorem run_host {s t : State} {w : TxnWord} {rest : List Input} {i : Instr} (n : Nat)
    (hin : s.inputs = .host (access w) :: rest) (hd : decode w = .ok i) (ht : exec i (s.setInputs rest) = .next t) :
    Host.Core.run core (n + 1) s = Host.Core.run core n t := by
  obtain ⟨-, stepped⟩ := stepRunsTheDecodedInstruction s (access w) rest i hin hd
  exact run_next core n (stepped.trans ht)

/-- One WR CRC_DATA per byte folds the bytes in, in order (R125), by induction on them. -/
theorem run_crcData (n : Nat) (bytes : List Byte) {s : State} {rest : List Input}
    (hin : s.inputs = bytes.map crcDataAccess ++ rest) :
    Host.Core.run core (bytes.length + n) s =
      Host.Core.run core n ((s.setInputs rest).setCrcState (rawCrc s.crcState bytes)) := by
  induction bytes generalizing s with
  | nil =>
    obtain rfl : s.inputs = rest := hin
    exact congrArg (Host.Core.run core · s) (Nat.zero_add n)
  | cons b bytes ih =>
    have byte : (b.setWidth 32).setWidth 8 = b := by simp
    rw [List.length_cons, Nat.succ_add,
      run_host _ hin (decode_writeCrcData _) (exec_wrCrcData _ _), ih rfl, byte]
    rfl

theorem not_crc32 (bytes : List Byte) : ~~~ crc32 bytes = rawCrc crcInit bytes := by
  rw [crc32, BitVec.not_not]

/-- Settles O26: WR CRC_INIT presets all ones, the bytes are folded in, and the read answers the complement. -/
theorem crcEngineComputesCrc32 : Obligations.CrcEngineComputesCrc32 := by
  intro bytes d s rest hin
  rw [not_crc32]
  calc Host.Core.run core (bytes.length + 1 + 1) s
    _ = Host.Core.run core (bytes.length + 1) ((s.setInputs _).setCrcState crcInit) :=
      run_host _ hin (decode_writeCrcInit d) (exec_wrCrcInit d _)
    _ = Host.Core.run core 1
          ((s.setInputs (.host (access (packRead 0x3C)) :: rest)).setCrcState (rawCrc crcInit bytes)) :=
      run_crcData 1 bytes rfl
    _ = .next (((s.setInputs rest).setCrcState (rawCrc crcInit bytes)).respond (crc32 bytes)) :=
      run_host 0 rfl decode_readCrcResult (exec_rdCrcResult _)

end Sys2Proof.Machine
end

section
/-! The payload of each record type: its bytes, and its length against the pixel count that the descriptor carries
(41_descriptor.md R149 to R152, R155). -/

namespace Sys2Proof.Machine

/-! ### The payload -/

/-- The WS2812 payload (30_encoding.md R106; 41_descriptor.md R149). -/
theorem payload_ws2812 {c : FrameContext} (pb : Nat → Byte) (rt : c.rt = 1) :
    payload c pb = (List.range (3 * c.n.toNat)).map pb := by
  rw [payload, rt]
  rfl

/-- The APA102_DATA payload (30_encoding.md R107; 41_descriptor.md R150). -/
theorem payload_apa102Data {c : FrameContext} (pb : Nat → Byte) (rt : c.rt = 3) :
    payload c pb = (List.range c.n.toNat).flatMap (apaPixel c.br pb) := by
  rw [payload, rt]
  rfl

/-- Every other type, APA102_CLOCK included (41_descriptor.md R152). -/
theorem payload_eq_nil {c : FrameContext} (pb : Nat → Byte) (not1 : c.rt ≠ 1) (not3 : c.rt ≠ 3) :
    payload c pb = [] := by
  obtain ⟨rt, -⟩ | ⟨rt, -⟩ | ⟨-, type⟩ | ⟨-, type | type⟩ := recordType_cases c.rt
  · exact absurd rt not1
  · exact absurd rt not3
  · rw [payload, type]
  · rw [payload, type]
  · rw [payload, type]

/-! ### Pixels of one width in a row -/

section
variable {f : Nat → List Byte} {w : Nat} (width : ∀ i, (f i).length = w)
include width

theorem length_flatMap_range (n : Nat) : ((List.range n).flatMap f).length = w * n := by
  simp [List.length_flatMap, width, Nat.mul_comm]

/-- Byte `j` of pixel `i` stands at `w * i + j`, by induction on the number of pixels. -/
theorem getElem?_flatMap_range {n i j : Nat} (pixel : i < n) (byte : j < w) :
    ((List.range n).flatMap f)[w * i + j]? = (f i)[j]? := by
  induction n with
  | zero => exact absurd pixel i.not_lt_zero
  | succ n ih =>
    have before : ((List.range n).flatMap f).length = w * n := length_flatMap_range width n
    rw [List.range_succ, List.flatMap_append, List.flatMap_singleton]
    obtain earlier | rfl := Nat.lt_succ_iff_lt_or_eq.1 pixel
    · have within : w * i + j < w * n := calc
        w * i + j < w * (i + 1) := Nat.add_lt_add_left byte (w * i)
        _ ≤ w * n := Nat.mul_le_mul_left w earlier
      rw [List.getElem?_append_left (before ▸ within), ih earlier]
    · rw [List.getElem?_append_right (before ▸ Nat.le_add_right _ j), before, Nat.add_sub_cancel_left]

end

theorem apaPixel_length (br : Byte) (pb : Nat → Byte) (i : Nat) : (apaPixel br pb i).length = 4 := rfl

theorem apaPixel_color (br : Byte) (pb : Nat → Byte) (i : Nat) {j : Nat} (color : j < 3) :
    (apaPixel br pb i)[j]? = some (pb (3 * i + j)) := by
  interval_cases j <;> rfl

theorem apaPixel_brightness (br : Byte) (pb : Nat → Byte) (i : Nat) :
    (apaPixel br pb i)[3]? = some (brightness5 br) := rfl

theorem payload_length_ws2812 {c : FrameContext} (pb : Nat → Byte) (rt : c.rt = 1) :
    (payload c pb).length = 3 * c.n.toNat := by
  rw [payload_ws2812 pb rt, List.length_map, List.length_range]

theorem payload_length_apa102Data {c : FrameContext} (pb : Nat → Byte) (rt : c.rt = 3) :
    (payload c pb).length = 4 * c.n.toNat := by
  rw [payload_apa102Data pb rt, length_flatMap_range (apaPixel_length c.br pb)]

/-- Byte `j` of pixel `i` of an APA102_DATA payload (41_descriptor.md R150). -/
theorem payload_apa102Data_getElem? {c : FrameContext} (pb : Nat → Byte) (rt : c.rt = 3) {i j : Nat}
    (pixel : i < c.n.toNat) (byte : j < 4) : (payload c pb)[4 * i + j]? = (apaPixel c.br pb i)[j]? := by
  rw [payload_apa102Data pb rt, getElem?_flatMap_range (apaPixel_length c.br pb) pixel byte]

/-- Settles O29: a WS2812 payload is the buffer's bytes in a row, an APA102_DATA payload pixels of four bytes in a row. -/
theorem payloadBytes : Obligations.PayloadBytes := by
  intro c pb
  refine ⟨fun rt => ⟨payload_length_ws2812 pb rt, fun a ha => ?ws2812⟩,
    fun rt => ⟨payload_length_apa102Data pb rt, fun i hi => ⟨fun j hj => ?color, ?brightness⟩⟩, payload_eq_nil pb⟩
  case ws2812 => rw [payload_ws2812 pb rt, List.getElem?_map, List.getElem?_range ha, Option.map_some]
  case color => rw [payload_apa102Data_getElem? pb rt hi (by omega), apaPixel_color c.br pb i hj]
  case brightness => rw [payload_apa102Data_getElem? pb rt hi (by omega), apaPixel_brightness, brightness5]

/-! ### The pixel count in the descriptor -/

/-- The two bytes of a little-endian half-word carry its value. -/
theorem le16_value (v : Half) : ∃ lo hi : Byte, le16 v = [lo, hi] ∧ lo.toNat + 256 * hi.toNat = v.toNat := by
  refine ⟨_, _, le16_eq v, ?_⟩
  have bound : v.toNat < 65536 := v.isLt
  simp only [BitVec.toNat_setWidth, BitVec.toNat_ushiftRight, Nat.shiftRight_eq_div_pow]
  omega

/-- Settles O31: each type's payload length, and a descriptor that carries a pixel count ends with `le16` of FC_N. -/
theorem payloadLengthIsCountTimesWidth : Obligations.PayloadLengthIsCountTimesWidth := by
  intro c pb
  refine ⟨?length, fun rt => ?ws2812, fun rt => ?apa102Data⟩
  case length =>
    by_cases ws2812 : c.rt = 1
    · rw [payload_length_ws2812 pb ws2812, if_pos (.inl ws2812), if_pos ws2812, Nat.mul_comm]
    by_cases apa102Data : c.rt = 3
    · rw [payload_length_apa102Data pb apa102Data, if_pos (.inr apa102Data), if_neg ws2812, if_pos apa102Data,
        Nat.mul_comm]
    · rw [payload_eq_nil pb ws2812 apa102Data, if_neg ws2812, if_neg apa102Data]
      rfl
  case ws2812 =>
    rw [descriptor_ws2812 rt]
    exact le16_value c.n
  case apa102Data =>
    rw [descriptor_apa102Data rt]
    exact le16_value c.n

end Sys2Proof.Machine
end

section
/-! WIRE as the beginnings of frames, one after another (42_frame_encoder.md R177, R178; 70_reset_and_hazards.md R271): a step
adds the accepted byte to the last of them, or lets a frame end and its beginning stand as it is. -/

namespace Sys2Proof.Machine

/-- The bytes accepted so far of the frame in progress, the last piece of WIRE. -/
def State.acceptedOfFrame (s : State) : List Byte := if s.seqState = .frame then s.frameBytes.take s.seqPos else []

theorem State.acceptedOfFrame_frame {s : State} (inFrame : s.seqState = .frame) :
    s.acceptedOfFrame = s.frameBytes.take s.seqPos := if_pos inFrame

theorem State.acceptedOfFrame_idle {s : State} (idle : s.seqState = .idle) : s.acceptedOfFrame = [] := by
  simp [State.acceptedOfFrame, idle]

theorem State.acceptedOfFrame_start {s : State} (start : s.seqPos = 0) : s.acceptedOfFrame = [] := by
  simp [State.acceptedOfFrame, start]

theorem State.acceptedOfFrame_beginsFrame (s : State) : s.acceptedOfFrame <+: s.frameBytes := by
  unfold State.acceptedOfFrame
  split_ifs
  · exact ⟨_, List.take_append_drop _ _⟩
  · exact ⟨_, rfl⟩

/-- The frame in progress goes on, or none is: what WIRE gains joins its last piece. -/
theorem State.WireFramed.extend {s t : State} (h : s.WireFramed) (bs : List Byte) (wire : t.wire = s.wire ++ bs)
    (accepted : t.acceptedOfFrame = s.acceptedOfFrame ++ bs) : t.WireFramed := by
  obtain ⟨pieces, hwire, frames⟩ := h
  refine ⟨pieces, ?_, frames⟩
  calc t.wire
    _ = pieces.flatten ++ s.acceptedOfFrame ++ bs := by rw [wire, hwire, State.acceptedOfFrame]
    _ = pieces.flatten ++ t.acceptedOfFrame := by rw [accepted, List.append_assoc]

/-- A frame ends, whole or cut short: its bytes become the last of the earlier pieces. -/
theorem State.WireFramed.close {s t : State} (h : s.WireFramed) (wire : t.wire = s.wire) (idle : t.seqState = .idle) :
    t.WireFramed := by
  obtain ⟨pieces, hwire, frames⟩ := h
  have ended : t.acceptedOfFrame = [] := State.acceptedOfFrame_idle idle
  refine ⟨pieces ++ [s.acceptedOfFrame], ?_, List.forall_mem_append.2 ⟨frames, ?_⟩⟩
  · calc t.wire
      _ = (pieces ++ [s.acceptedOfFrame]).flatten := by
        rw [wire, hwire, List.flatten_append, List.flatten_singleton, State.acceptedOfFrame]
      _ = (pieces ++ [s.acceptedOfFrame]).flatten ++ t.acceptedOfFrame := by rw [ended, List.append_nil]
  · exact List.forall_mem_singleton.2 ⟨s.fc, s.pb, s.acceptedOfFrame_beginsFrame⟩

/-- An instruction keeps what was accepted of a frame, and starts one with nothing accepted. -/
theorem HostEffect.acceptedOfFrame {s t : State} {i : Instr} (h : HostEffect s i t) :
    t.acceptedOfFrame = s.acceptedOfFrame := by
  obtain same | ⟨idle, c, -, rfl⟩ := h.seqState
  · cases hs : s.seqState with
    | idle => rw [State.acceptedOfFrame_idle hs, State.acceptedOfFrame_idle (same.trans hs)]
    | frame =>
      have kept := h.keepsFrame hs
      rw [State.acceptedOfFrame_frame hs, State.acceptedOfFrame_frame (same.trans hs), kept.frameBytes, kept.seqPos]
  · rw [State.acceptedOfFrame_idle idle, State.acceptedOfFrame_start rfl]

theorem HostEffect.wireFramed {s t : State} {i : Instr} (h : HostEffect s i t) (hs : s.WireFramed) : t.WireFramed :=
  hs.extend [] (by rw [h.wire_eq, List.append_nil]) (by rw [h.acceptedOfFrame, List.append_nil])

/-- The byte on offer, once accepted, is the next of the frame's (42_frame_encoder.md R168, R169). -/
theorem State.FrameOk.sendByte_wireFramed {s : State} (h : s.FrameOk) (inFrame : s.seqState = .frame)
    (hs : s.WireFramed) : (s.sendByte (byteAt s s.seqPos)).WireFramed := by
  refine hs.extend [byteAt s s.seqPos] rfl ?_
  calc (s.sendByte (byteAt s s.seqPos)).acceptedOfFrame
    _ = s.frameBytes.take (s.seqPos + 1) := State.acceptedOfFrame_frame inFrame
    _ = s.frameBytes.take s.seqPos ++ [byteAt s s.seqPos] := by rw [List.take_add_one, h.frameBytes_seqPos]; rfl
    _ = s.acceptedOfFrame ++ [byteAt s s.seqPos] := by rw [State.acceptedOfFrame_frame inFrame]

theorem State.reset_wireFramed : State.reset.WireFramed := ⟨[], rfl, nofun⟩

/-- Settles O60, by the effects of one step: an accepted byte extends the last piece, what ends a frame closes it, and nothing
else touches WIRE. -/
theorem stepKeepsWireFramed : Obligations.StepKeepsWireFramed := by
  refine ⟨fun s t inv framed h => ?_, State.reset_wireFramed⟩
  cases step_effect h with
  | wait | stall => exact framed
  | host _ _ he => exact he.wireFramed framed
  | fail | reset => exact framed.close rfl rfl
  | accept rest inFrame => exact (inv.frame inFrame).sendByte_wireFramed inFrame framed
  | complete rest inFrame => exact ((inv.frame inFrame).sendByte_wireFramed inFrame framed).close rfl rfl

end Sys2Proof.Machine
end

section
/-! The commands: what a write of CMD does at acceptance (42_frame_encoder.md R160 to R166). -/

namespace Sys2Proof.Machine

/-! ### The length check -/

/-- NEED by record type (41_descriptor.md R141, R142). -/
theorem need_eq (rt : Byte) (n : Half) : need rt n = if rt = 1 ∨ rt = 3 then 3 * n.toNat else 0 := by
  obtain ⟨rt, type⟩ | ⟨rt, type⟩ | ⟨rt, type⟩ | ⟨⟨not1, not3, -⟩, type | type⟩ := recordType_cases rt
  · rw [need, nEff, type, if_pos (.inl rt)]
  · rw [need, nEff, type, if_pos (.inr rt)]
  · rw [need, nEff, type, rt]
    rfl
  · rw [need, nEff, type, if_neg (not_or.2 ⟨not1, not3⟩), Nat.mul_zero]
  · rw [need, nEff, type, if_neg (not_or.2 ⟨not1, not3⟩), Nat.mul_zero]

/-! ### A valid command -/

theorem idle_of_not_frame {s : State} (h : s.seqState ≠ .frame) : s.seqState = .idle := by
  rw [← busy_eq_false, Bool.eq_false_iff]
  exact mt (busy_eq_true s).1 h

theorem runCommand_of_frame (c : FrameContext) {s : State} (inFrame : s.seqState = .frame) :
    runCommand c s = s.raise .busyErr := by
  obtain ⟨-, h⟩ | ⟨idle, -⟩ | ⟨idle, -⟩ := runCommand_cases c s
  · exact h
  · exact nomatch inFrame.symm.trans idle
  · exact nomatch inFrame.symm.trans idle

theorem runCommand_of_fits {c : FrameContext} {s : State} (idle : s.seqState = .idle)
    (fits : need c.rt c.n ≤ s.bufLen.toNat) : runCommand c s = (s.latch c).startFrame := by
  obtain ⟨inFrame, -⟩ | ⟨-, long, -⟩ | ⟨-, -, h⟩ := runCommand_cases c s
  · exact nomatch idle.symm.trans inFrame
  · exact absurd fits (Nat.not_le.2 long)
  · exact h

theorem runCommand_of_long {c : FrameContext} {s : State} (idle : s.seqState = .idle)
    (long : s.bufLen.toNat < need c.rt c.n) : runCommand c s = (s.latch c).refuseLength := by
  obtain ⟨inFrame, -⟩ | ⟨-, -, h⟩ | ⟨-, fits, -⟩ := runCommand_cases c s
  · exact nomatch idle.symm.trans inFrame
  · exact h
  · exact absurd long (Nat.not_lt.2 fits)

/-- The pseudocode of R160 after its check of OPCODE, for the context `c`. -/
theorem runCommand_eq_pseudocode (c : FrameContext) (s : State) :
    (.next (runCommand c s) : Host.Outcome State Fault Refusal) =
      if s.seqState = .frame then .next { s with status := { s.status with busyErr := true } }
      else if (if c.rt = 1 ∨ c.rt = 3 then 3 * c.n.toNat else 0) > s.bufLen.toNat then
        .next { s with status := { s.status with done := true, txFail := false, lenErr := true }, fc := c }
      else
        .next { s with
          status := { s.status with done := false, txFail := false, lenErr := false }, fc := c,
          frameCrc := 0xFFFFFFFF#32, seqPos := 0, txCount := 0, seqState := .frame } := by
  rw [← need_eq]
  split_ifs with inFrame long
  · rw [runCommand_of_frame c inFrame]
    rfl
  · rw [runCommand_of_long (idle_of_not_frame inFrame) long]
    rfl
  · rw [runCommand_of_fits (idle_of_not_frame inFrame) (Nat.not_lt.1 long)]
    rfl

theorem exec_cmdSendChannel (d : Word) (s : State) :
    exec (.cmdSendChannel d) s = .next (runCommand (argumentContext s) s) := rfl

theorem exec_cmdCommit (d : Word) (s : State) : exec (.cmdCommit d) s = .next (runCommand commitContext s) := rfl

/-- Settles O15: either command raises BUSY_ERR. -/
theorem commandWhileBusyIsDiscarded : Obligations.CommandWhileBusyIsDiscarded := by
  intro d s inFrame
  rw [exec_cmdSendChannel, exec_cmdCommit, runCommand_of_frame _ inFrame, runCommand_of_frame _ inFrame]
  exact ⟨rfl, rfl⟩

/-- Settles O16: the length check passes, so the latched context's frame starts. -/
theorem sendChannelStartsItsFrame : Obligations.SendChannelStartsItsFrame := by
  intro d s idle fits
  rw [← need_eq] at fits
  rw [exec_cmdSendChannel, runCommand_of_fits idle fits]
  rfl

/-- Settles O17: the length check refuses the latched context. -/
theorem sendChannelLengthCheckRefuses : Obligations.SendChannelLengthCheckRefuses := by
  intro d s idle long
  rw [← need_eq] at long
  rw [exec_cmdSendChannel, runCommand_of_long idle long]
  rfl

/-- Settles O18: the constant context needs no pixel data, so the length check passes whatever BUF_LEN is. -/
theorem commitStartsItsFrame : Obligations.CommitStartsItsFrame := by
  intro d s idle
  have fits : need commitContext.rt commitContext.n ≤ s.bufLen.toNat := need_commitContext ▸ Nat.zero_le _
  rw [exec_cmdCommit, runCommand_of_fits idle fits]
  rfl

/-! ### Every write of CMD -/

/-- A reserved command raises CMD_ERR from every state (42_frame_encoder.md R161). -/
theorem exec_of_mem_reservedCommands (d : Word) (s : State) :
    ∀ i ∈ reservedCommands d, exec i s = .next (s.raise .cmdErr) := by
  simp only [reservedCommands, List.forall_mem_cons]
  exact ⟨rfl, rfl, rfl, rfl, rfl, rfl, rfl, rfl, nofun⟩

theorem decode_writeCmd (d : Word) : decode (packWrite 0x04 d) = .ok (decodeCommand d) :=
  decode_packWrite (off := 0x04#8) d rfl

/-- The command a write of CMD selects, by its OPCODE DATA[7:0] (30_encoding.md R83, R84). -/
theorem decodeCommand_cases (d : Word) :
    (d.toNat % 256 = 1 ∧ decodeCommand d = .cmdSendChannel d) ∨ (d.toNat % 256 = 2 ∧ decodeCommand d = .cmdCommit d) ∨
    ((d.toNat % 256 ≠ 1 ∧ d.toNat % 256 ≠ 2) ∧ decodeCommand d ∈ reservedCommands d) := by
  have wellFormed := decodeCommand_wellFormed d
  have opcode : (txnOpcode d).toNat = d.toNat % 256 := opcodeOf_toNat d
  obtain send | other := List.mem_cons.1 (decodeCommand_mem_commands d)
  · obtain ⟨low, high⟩ := opcodeIn_iff.1 (send ▸ wellFormed)
    exact .inl ⟨by omega, send⟩
  obtain commit | reserved := List.mem_cons.1 other
  · obtain ⟨low, high⟩ := opcodeIn_iff.1 (commit ▸ wellFormed)
    exact .inr (.inl ⟨by omega, commit⟩)
  · exact .inr (.inr ⟨opcode_of_mem_reservedCommands _ reserved wellFormed, reserved⟩)

/-- Settles O14: by constructor, and by word through the decoder. -/
theorem reservedOpcodesRaiseCmdErr : Obligations.ReservedOpcodesRaiseCmdErr := by
  refine ⟨exec_of_mem_reservedCommands, fun d not1 not2 => ⟨_, decode_writeCmd d, fun s => ?_⟩⟩
  obtain ⟨send, -⟩ | ⟨commit, -⟩ | ⟨-, reserved⟩ := decodeCommand_cases d
  · exact absurd send not1
  · exact absurd commit not2
  · exact exec_of_mem_reservedCommands d s _ reserved

/-- Settles O19: the decoder selects the command by OPCODE, and the two valid ones follow the rest of the
pseudocode with their contexts. -/
theorem cmdWriteFollowsItsPseudocode : Obligations.CmdWriteFollowsItsPseudocode := by
  intro d s
  refine ⟨_, decode_writeCmd d, ?_⟩
  obtain ⟨op, send⟩ | ⟨op, commit⟩ | ⟨op, reserved⟩ := decodeCommand_cases d
  · rw [op, send, exec_cmdSendChannel]
    exact runCommand_eq_pseudocode (argumentContext s) s
  · rw [op, commit, exec_cmdCommit]
    exact runCommand_eq_pseudocode commitContext s
  · rw [if_pos op]
    exact exec_of_mem_reservedCommands d s _ reserved

end Sys2Proof.Machine
end

section
/-! The sequencer's offer and the transport's answer to it (42_frame_encoder.md R167 to R174), and what starts and what ends
a frame (R177). -/

namespace Sys2Proof.Machine

/-! ### The byte on offer -/

theorem offered_of_idle {s : State} (idle : s.seqState = .idle) : offered s = none := by
  simp [offered, txValid, busy, idle]

/-- A byte is on offer only while a frame is in progress, and it is the one at SEQ_POS (R167). -/
theorem offered_eq_some {s : State} {b : Byte} (h : offered s = some b) :
    s.seqState = .frame ∧ byteAt s s.seqPos = b := by
  cases hs : s.seqState with
  | idle => exact nomatch (offered_of_idle hs).symm.trans h
  | frame => exact ⟨rfl, Option.some.inj ((offered_of_frame hs).symm.trans h)⟩

/-- Settles O35: the byte on offer is the one at SEQ_POS, which under the invariant is the frame's. -/
theorem offeredByteIsTheFrames : Obligations.OfferedByteIsTheFrames := by
  refine ⟨fun s => offered_of_idle, fun s inv inFrame => ?_⟩
  rw [offered_of_frame inFrame, (inv.frame inFrame).frameBytes_seqPos]

/-! ### One transport input -/

theorem acceptByte_of_more {s : State} (more : s.seqPos + 1 ≠ s.frameBody.length + 4) :
    acceptByte s = { s.sendByte (byteAt s s.seqPos) with frameCrc := s.crcAfterOffered } := by
  obtain ⟨inBody, h⟩ | ⟨pastBody, -, h⟩ | ⟨last, -⟩ := acceptByte_cases s
  · rw [h, State.crcAfterOffered, if_pos inBody]
    rfl
  · rw [h, State.crcAfterOffered, if_neg (Nat.not_lt.2 pastBody)]
    rfl
  · exact absurd last more

theorem acceptByte_of_last {s : State} (last : s.seqPos + 1 = s.frameBody.length + 4) :
    acceptByte s = (s.sendByte (byteAt s s.seqPos)).complete := by
  obtain ⟨inBody, -⟩ | ⟨-, more, -⟩ | ⟨-, h⟩ := acceptByte_cases s
  · omega
  · exact absurd last more
  · exact h

theorem step_transport {s : State} {r e : Bool} {rest : List Input} (hin : s.inputs = .transport r e :: rest) :
    step s = .next (transportStep r e (s.setInputs rest)) := step_of_inputs hin

/-- An accepting handshake (R169). -/
theorem step_accept {s : State} {rest : List Input} (hin : s.inputs = .transport true false :: rest)
    (inFrame : s.seqState = .frame) : step s = .next (acceptByte (s.setInputs rest)) := by
  rw [step_transport hin]
  simp [transportStep, txValid, inFrame]

/-- A failing handshake (R173). -/
theorem step_fail {s : State} {rest : List Input} (hin : s.inputs = .transport true true :: rest)
    (inFrame : s.seqState = .frame) : step s = .next (s.setInputs rest).failFrame := by
  rw [step_transport hin]
  simp [transportStep, txValid, inFrame]

/-- No handshake (R174; 10_state.md R45). -/
theorem step_stall {s : State} {r e : Bool} {rest : List Input} (hin : s.inputs = .transport r e :: rest)
    (h : r = false ∨ s.seqState = .idle) : step s = .next (s.setInputs rest) := by
  rw [step_transport hin]
  obtain rfl | idle := h
  · simp [transportStep]
  · simp [transportStep, txValid, busy, idle]

/-- Settles O36: the accepted byte is the one on offer, and it is not the last. -/
theorem acceptedByteAdvancesTheFrame : Obligations.AcceptedByteAdvancesTheFrame := by
  intro s rest b hin hb more
  obtain ⟨inFrame, rfl⟩ := offered_eq_some hb
  exact (step_accept hin inFrame).trans (congrArg Host.Outcome.next (acceptByte_of_more (s := s.setInputs rest) more))

/-- Settles O37: the accepted byte is the one on offer, and it completes the frame. -/
theorem lastByteCompletesTheFrame : Obligations.LastByteCompletesTheFrame := by
  intro s rest b hin hb last
  obtain ⟨inFrame, rfl⟩ := offered_eq_some hb
  exact (step_accept hin inFrame).trans (congrArg Host.Outcome.next (acceptByte_of_last (s := s.setInputs rest) last))

/-- Settles O38: what a failing handshake does is `failFrame`, which touches STATUS and SEQ_STATE alone. -/
theorem failedByteEndsTheFrame : Obligations.FailedByteEndsTheFrame := fun _ _ hin inFrame => step_fail hin inFrame

/-- Settles O39: without a handshake the step takes its input and that is all. -/
theorem noHandshakeChangesNothing : Obligations.NoHandshakeChangesNothing := fun _ _ _ _ hin stalled =>
  step_stall hin stalled

/-! ### A frame's start and end -/

/-- Of the host's instructions only a valid command starts a frame, at its first byte (R164). -/
theorem HostEffect.frame_started {s t : State} {i : Instr} (h : HostEffect s i t) (idle : s.seqState = .idle)
    (inFrame : t.seqState = .frame) :
    (∃ d, i = .cmdSendChannel d ∨ i = .cmdCommit d) ∧ t.seqPos = 0 ∧ t.txCount = 0 := by
  cases h with
  | start d _ hi => exact ⟨⟨d, hi⟩, rfl, rfl⟩
  | _ => exact nomatch idle.symm.trans inFrame

/-- Settles O42: of the effects of a step only a host instruction's leads from IDLE to FRAME. -/
theorem frameStartsOnlyByCommand : Obligations.FrameStartsOnlyByCommand := by
  intro s t h idle inFrame
  cases step_effect h with
  | host hin hd he =>
    obtain ⟨⟨d, hi⟩, start, none_sent⟩ := he.frame_started idle inFrame
    exact ⟨_, _, d, hin, by simpa only [hd, Except.ok.injEq] using hi, start, none_sent⟩
  | fail | complete | reset => exact nomatch inFrame
  | _ => exact nomatch idle.symm.trans inFrame

/-- An accepted byte ends the frame only as its last (R172). -/
theorem acceptByte_ends {s : State} (inFrame : s.seqState = .frame) (idle : (acceptByte s).seqState = .idle) :
    s.seqPos + 1 = s.frameBody.length + 4 := by
  by_contra more
  rw [acceptByte_of_more more] at idle
  exact nomatch inFrame.symm.trans idle

/-- Settles O43, by the kinds of step: no host instruction ends a frame, and a transport input does by its last byte or by
failing. -/
theorem frameEndsOnlyByTransportOrReset : Obligations.FrameEndsOnlyByTransportOrReset := by
  intro s t h inFrame idle
  obtain ⟨-, hs⟩ | ⟨_, _, _, -, -, hs⟩ | ⟨_, rest, i, -, -, hs⟩ | ⟨r, e, rest, hin, hs⟩ | ⟨rest, hin, -⟩ :=
    step_cases s
  · cases hs.symm.trans h
    exact nomatch inFrame.symm.trans idle
  · exact nomatch hs.symm.trans h
  · obtain ⟨u, hu, effect⟩ := exec_effect i (s.setInputs rest)
    cases (hs.trans hu).symm.trans h
    exact nomatch (effect.seqState_of_frame inFrame).symm.trans idle
  · cases hs.symm.trans h
    obtain ⟨-, ht⟩ | ⟨-, rfl, rfl, -⟩ | ⟨-, rfl, rfl, ht⟩ := transportStep_cases r e (s.setInputs rest)
    · rw [ht] at idle
      exact nomatch inFrame.symm.trans idle
    · exact ⟨rest, .inr (.inl hin)⟩
    · have last : s.seqPos + 1 = s.frameBody.length + 4 := acceptByte_ends (s := s.setInputs rest) inFrame (ht ▸ idle)
      exact ⟨rest, .inl ⟨hin, last⟩⟩
  · exact ⟨rest, .inr (.inr hin)⟩

end Sys2Proof.Machine
end

section
/-! The residue a whole frame leaves in the checksum register (42_frame_encoder.md R179): folding the bytes of a word is
XORing the word in and shifting it out (40_crc32.md R124). -/

namespace Sys2Proof.Machine

/-- Eight shift steps of a register that a word is XORed into fold the word's low byte; the rest of the word moves down. -/
theorem crcShifts_byte (c v : Word) : crcShifts 8 (c ^^^ v) = fold c (v.setWidth 8) ^^^ (v >>> 8) := by
  have index : (c ^^^ zext32 (v.setWidth 8)).setWidth 8 = (c ^^^ v).setWidth 8 := by
    apply BitVec.eq_of_getLsbD_eq
    intro i hi
    simp [zext32, hi]
  rw [fold_eq_crcShifts, crcShifts_eq_table_step 8 (c ^^^ v), crcShifts_eq_table_step 8 (c ^^^ zext32 _), index,
    ushiftRight_xor_zext32, BitVec.ushiftRight_xor_distrib]
  ac_rfl

/-- Folding a word's four bytes, least significant first, is 32 shift steps of the register XORed with the word. -/
theorem rawCrc_le32 (c v : Word) : rawCrc c (le32 v) = crcShifts 32 (c ^^^ v) := by
  have shifted_out : v >>> 32 = 0#32 := BitVec.ushiftRight_eq_zero (Nat.le_refl 32)
  rw [crcShifts_add 8 24, crcShifts_byte, crcShifts_add 8 16, crcShifts_byte, crcShifts_add 8 8, crcShifts_byte,
    crcShifts_byte]
  simp only [← BitVec.shiftRight_add, Nat.reduceAdd, shifted_out, BitVec.xor_zero]
  rw [le32_eq]
  rfl

theorem crcShifts_allOnes : crcShifts 32 (BitVec.allOnes 32) = 0xDEBB20E3#32 := by decide

/-- Settles O25: the register XORed with its own complement is all ones, whatever the bytes before. -/
theorem crcResidueIsConstant : Obligations.CrcResidueIsConstant := by
  intro s
  calc rawCrc crcInit (s ++ le32 (crc32 s))
    _ = rawCrc (rawCrc crcInit s) (le32 (crc32 s)) := rawCrc_append _ _ _
    _ = crcShifts 32 (rawCrc crcInit s ^^^ crc32 s) := rawCrc_le32 _ _
    _ = crcShifts 32 (BitVec.allOnes 32) := by
      rw [crc32, ← BitVec.not_xor_right, BitVec.xor_self, BitVec.not_zero]
    _ = 0xDEBB20E3#32 := crcShifts_allOnes

end Sys2Proof.Machine
end

section
/-! The pixel-buffer bytes a frame is made of (42_frame_encoder.md R180). -/

namespace Sys2Proof.Machine

theorem apaPixel_congr (br : Byte) {pb pb' : Nat → Byte} {i : Nat} (h : ∀ j < 3, pb' (3 * i + j) = pb (3 * i + j)) :
    apaPixel br pb' i = apaPixel br pb i := by
  have red : pb' (3 * i) = pb (3 * i) := h 0 (by decide)
  rw [apaPixel, apaPixel, red, h 1 (by decide), h 2 (by decide)]

/-- The payload of each record type reads the buffer below NEED only (41_descriptor.md R149, R150, R152). -/
theorem payload_congr {c : FrameContext} {pb pb' : Nat → Byte} (h : ∀ a < need c.rt c.n, pb' a = pb a) :
    payload c pb' = payload c pb := by
  rw [need_eq] at h
  by_cases ws2812 : c.rt = 1
  · rw [if_pos (.inl ws2812)] at h
    rw [payload_ws2812 pb' ws2812, payload_ws2812 pb ws2812]
    exact List.map_congr_left fun a ha => h a (List.mem_range.1 ha)
  by_cases apa102Data : c.rt = 3
  · rw [if_pos (.inr apa102Data)] at h
    rw [payload_apa102Data pb' apa102Data, payload_apa102Data pb apa102Data]
    refine List.flatMap_congr fun i hi => apaPixel_congr c.br fun j hj => h _ ?_
    have pixel : i < c.n.toNat := List.mem_range.1 hi
    omega
  · rw [payload_eq_nil pb' ws2812 apa102Data, payload_eq_nil pb ws2812 apa102Data]

/-- Settles O33: of the parts of a frame only the payload, and through it the checksum, reads the buffer. -/
theorem frameDependsOnlyOnNeededBytes : Obligations.FrameDependsOnlyOnNeededBytes := by
  intro c pb pb' h
  have same_body : body c pb' = body c pb := by rw [body, payload_congr h, body]
  rw [frame, same_body, frame]

end Sys2Proof.Machine
end

section
/-! The packed color order as a number: its four indices are the digits to base 4 (43_color_order.md R190 to R193). -/

namespace Sys2Proof.Machine

/-- A 2-bit index placed above a byte that leaves it room is added to the byte. -/
theorem toNat_index_or {k : Nat} (x : BitVec 2) {low : Byte} (inByte : k ≤ 6) (below : low.toNat < 2 ^ k) :
    (x.setWidth 8 <<< k ||| low).toNat = x.toNat * 2 ^ k + low.toNat := by
  have fits : x.toNat * 2 ^ k < 2 ^ 8 := calc
    x.toNat * 2 ^ k < 2 ^ 2 * 2 ^ k := Nat.mul_lt_mul_of_pos_right x.isLt (Nat.two_pow_pos k)
    _ ≤ 2 ^ 2 * 2 ^ 6 := Nat.mul_le_mul_left _ (Nat.pow_le_pow_right (by decide) inByte)
  rw [BitVec.toNat_or, BitVec.toNat_shiftLeft, BitVec.toNat_setWidth_of_le (by decide), Nat.shiftLeft_eq,
    Nat.mod_eq_of_lt fits, ← Nat.shiftLeft_eq, Nat.shiftLeft_add_eq_or_of_lt below]

/-- The four indices of a packed color order do not overlap: the shifted OR is their sum (43_color_order.md R191). -/
theorem colorPack_toNat (o : ColorOrder) :
    (colorPack o).toNat = o.white.toNat * 64 + o.blue.toNat * 16 + o.green.toNat * 4 + o.red.toNat := by
  have red_lt := o.red.isLt
  have green_lt := o.green.isLt
  have blue_lt := o.blue.isLt
  have red : (o.red.setWidth 8).toNat = o.red.toNat := BitVec.toNat_setWidth_of_le (by decide)
  have green := toNat_index_or (k := 2) (low := o.red.setWidth 8) o.green (by decide) (by omega)
  have blue := toNat_index_or (k := 4) o.blue (by decide) (by rw [green, red]; omega)
  have white := toNat_index_or (k := 6) o.white (by decide) (by rw [blue, green, red]; omega)
  rw [colorPack, BitVec.or_assoc, BitVec.or_assoc, white, blue, green, red]
  omega

/-- A byte's four 2-bit fields are its digits to base 4 (43_color_order.md R192). -/
theorem colorPack_colorUnpack (v : Byte) : colorPack (colorUnpack v) = v := by
  apply BitVec.eq_of_toNat_eq
  rw [colorPack_toNat]
  simp only [colorUnpack, BitVec.extractLsb'_toNat, Nat.shiftRight_eq_div_pow]
  omega

/-- The indices are digits to base 4, so their packed byte determines them. -/
theorem colorPack_injective : Function.Injective colorPack := by
  rintro ⟨r, g, b, w⟩ ⟨r', g', b', w'⟩ same
  have digits := congrArg BitVec.toNat same
  simp only [colorPack_toNat] at digits
  rw [ColorOrder.mk.injEq]
  refine ⟨?_, ?_, ?_, ?_⟩ <;> bv_omega

/-- Settles O34: packing is injective and undoes unpacking, so unpacking undoes packing as well. -/
theorem colorOrderPackUnpack : Obligations.ColorOrderPackUnpack :=
  ⟨colorPack_colorUnpack, fun o => colorPack_injective (colorPack_colorUnpack (colorPack o)), colorPack_toNat,
    by decide, rfl, by decide, rfl⟩

end Sys2Proof.Machine
end

section
/-! The words of the register accesses (30_encoding.md R80 to R82), and the four registers of the pixel buffer: what MemRead
and MemWrite give and the values BUF_LEN and PB_ADDR store (44_register_access.md R217 to R224). -/

namespace Sys2Proof.Machine

/-! ### The words of reads -/

/-- The packed read of R80, in arithmetic and by fields. -/
theorem packRead_eq_txnWord (off : Byte) : packRead off.toNat = txnWord false off 0#32 := by
  have hoff : off.toNat < 2 ^ 8 := off.isLt
  apply BitVec.eq_of_toNat_eq
  rw [packRead, txnWord, BitVec.toNat_ofNat, BitVec.toNat_append, BitVec.toNat_append, BitVec.toNat_ofBool,
    BitVec.toNat_zero, Nat.or_zero, Bool.toNat_false, Nat.zero_shiftLeft, Nat.zero_or, Nat.shiftLeft_eq]
  omega

theorem decode_packRead {off : Byte} (aligned : off.toNat % 4 = 0) :
    decode (packRead off.toNat) = .ok (decodeRead off) := by
  rw [packRead_eq_txnWord, decode_txnWord_read 0#32 aligned]

/-! ### Reads of the buffer -/

/-- R65: byte `k` of the word MemRead gives is the one at address `a + k`. -/
theorem State.byteOf_memRead4 (s : State) (a : Nat) {k : Nat} (hk : k < 4) :
    byteOf (s.memRead4 a) k = s.pb (a + k) := by
  unfold byteOf State.memRead4 joinLe
  interval_cases k
  · exact BitVec.extractLsb'_append_eq_right
  · rw [BitVec.extractLsb'_append_eq_of_le (by decide)]
    exact BitVec.extractLsb'_append_eq_right
  · rw [BitVec.extractLsb'_append_eq_of_le (by decide), BitVec.extractLsb'_append_eq_of_le (by decide)]
    exact BitVec.extractLsb'_append_eq_right
  · rw [BitVec.extractLsb'_append_eq_of_le (by decide), BitVec.extractLsb'_append_eq_of_le (by decide)]
    exact BitVec.extractLsb'_append_eq_left

theorem State.pb_mod (s : State) (a : Nat) : s.pb a = s.pb (a % s.pixbufBytes) := by
  rw [State.pb, State.pb, Nat.mod_mod]

theorem memLookup_eq_none {m : Memory} {a : Nat} (h : ∀ c ∈ m, c.1 ≠ a) : memLookup m a = none := by
  induction m with
  | nil => rfl
  | cons c m ih =>
    obtain ⟨other, rest⟩ := List.forall_mem_cons.1 h
    rw [memLookup, if_neg other, ih rest]

/-- R272: an address inside the buffer that no write since reset has reached holds PIXBUF_INIT. -/
theorem State.pb_unwritten {s : State} {a : Nat} (inside : a < s.pixbufBytes) (h : ∀ c ∈ s.pixbuf, c.1 ≠ a) :
    s.pb a = Config.pixbufInit s.resets a := by
  rw [State.pb, Nat.mod_eq_of_lt inside, memLookup_eq_none h, Option.getD_none]

/-- Settles O5: both reads answer through `respond`, with the bytes of MemRead at PB_ADDR. -/
theorem pixelBufferReads : Obligations.PixelBufferReads :=
  ⟨decode_packRead (off := 0x2C#8) rfl, decode_packRead (off := 0x30#8) rfl, fun s =>
    ⟨⟨s.memRead4 s.pbAddr.toNat, rfl, fun _ hk => s.byteOf_memRead4 _ hk⟩, rfl, s.pb_mod, fun _ => State.pb_unwritten⟩⟩

/-! ### The values BUF_LEN and PB_ADDR store -/

/-- PIXBUF_BYTES of a legal configuration is at most 2^24, so a value within it fits a register. -/
theorem State.toNat_ofNat_of_le_pixbufBytes {s : State} (legal : s.config.Legal) {n : Nat} (h : n ≤ s.pixbufBytes) :
    (BitVec.ofNat 32 n).toNat = n := by
  have bound : n ≤ 2 ^ 24 := h.trans (State.pixbufBytes_bounds legal).2
  rw [BitVec.toNat_ofNat]
  exact Nat.mod_eq_of_lt (by omega)

theorem State.toNat_ofNat_mod_pixbufBytes {s : State} (legal : s.config.Legal) (n : Nat) :
    (BitVec.ofNat 32 (n % s.pixbufBytes)).toNat = n % s.pixbufBytes :=
  State.toNat_ofNat_of_le_pixbufBytes legal (Nat.mod_lt n s.pixbufBytes_pos).le

/-- Settles O10: the minimum and the remainder are within PIXBUF_BYTES. -/
theorem warlRegistersStoreLegalValues : Obligations.WarlRegistersStoreLegalValues := fun d _ legal =>
  ⟨decode_packWrite (off := 0x24#8) d rfl, decode_packWrite (off := 0x28#8) d rfl,
    ⟨_, rfl, State.toNat_ofNat_of_le_pixbufBytes legal (Nat.min_le_right _ _)⟩,
    ⟨_, rfl, State.toNat_ofNat_mod_pixbufBytes legal _⟩⟩

/-! ### Writes to the buffer -/

theorem mod_ne_add_mod {n d : Nat} (a : Nat) (pos : 0 < d) (less : d < n) : a % n ≠ (a + d) % n := by
  intro same
  have multiple : d ≡ 0 [MOD n] := Nat.ModEq.add_left_cancel' a same.symm
  exact pos.ne' (Nat.eq_zero_of_dvd_of_lt (Nat.modEq_zero_iff_dvd.1 multiple) less)

/-- A write of several bytes that does not lap the buffer: byte `k` is found at its own address, since no later byte of the
write reaches it. -/
theorem memLookup_memStoreBytes_same {n : Nat} (m : Memory) (a : Nat) {bs : List Byte} {k : Nat} {b : Byte}
    (fits : bs.length ≤ n) (byte : bs[k]? = some b) : memLookup (memStoreBytes n m a bs) ((a + k) % n) = some b := by
  induction bs generalizing m a k with
  | nil => exact nomatch byte
  | cons b' bs ih =>
    rw [List.length_cons] at fits
    cases k with
    | zero =>
      obtain rfl : b' = b := Option.some.inj byte
      have later : ∀ j < bs.length, a % n ≠ (a + 1 + j) % n := fun j hj => by
        rw [Nat.add_assoc]
        exact mod_ne_add_mod a (by omega) (by omega)
      rw [Nat.add_zero, memStoreBytes, memLookup_memStoreBytes_other n _ _ _ bs later, memLookup_memStore_same]
    | succ k =>
      rw [memStoreBytes, Nat.add_comm k 1, ← Nat.add_assoc]
      exact ih _ _ (Nat.le_of_succ_le fits) byte

/-- What MemWrite at PB_ADDR stores: byte `k` at PB_ADDR + k, modulo PIXBUF_BYTES (00_scope.md R14). -/
theorem State.pb_storePixels_same (s : State) {bs : List Byte} {k : Nat} {b : Byte} (fits : bs.length ≤ s.pixbufBytes)
    (byte : bs[k]? = some b) : (s.storePixels bs).pb (s.pbAddr.toNat + k) = b := by
  have bytes : (s.storePixels bs).pixbufBytes = s.pixbufBytes := rfl
  rw [State.pb, bytes, State.storePixels_pixbuf, memLookup_memStoreBytes_same _ _ fits byte, Option.getD_some]

theorem State.unlessBusy_of_idle (f : State → State) {s : State} (idle : s.seqState = .idle) : s.unlessBusy f = f s := by
  obtain ⟨inFrame, -⟩ | ⟨-, h⟩ := State.unlessBusy_cases f s
  · exact nomatch idle.symm.trans inFrame
  · exact h

theorem State.unlessBusy_of_frame (f : State → State) {s : State} (inFrame : s.seqState = .frame) :
    s.unlessBusy f = s.raise .busyErr := by
  obtain ⟨-, h⟩ | ⟨idle, -⟩ := State.unlessBusy_cases f s
  · exact h
  · exact nomatch idle.symm.trans inFrame

theorem exec_wrPbData (d : Word) (s : State) :
    exec (.wrPbData d) s = .next (s.unlessBusy (State.storePixels (le32 d))) := rfl

theorem exec_wrPbData8 (d : Word) (s : State) :
    exec (.wrPbData8 d) s = .next (s.unlessBusy (State.storePixels [d.setWidth 8])) := by
  rw [← operand8_eq_setWidth]
  rfl

/-- Settles O12: MemWrite of the four bytes of DATA while IDLE, BUSY_ERR otherwise. -/
theorem pixelWordWrite : Obligations.PixelWordWrite := by
  intro d s legal
  have fits : (le32 d).length ≤ s.pixbufBytes := (by decide : 4 ≤ 256).trans (State.pixbufBytes_bounds legal).1
  refine ⟨decode_packWrite (off := 0x2C#8) d rfl, fun idle => ?_, fun inFrame => ?_⟩
  · rw [exec_wrPbData, State.unlessBusy_of_idle _ idle]
    exact ⟨_, _, rfl, State.toNat_ofNat_mod_pixbufBytes legal _,
      fun k hk => s.pb_storePixels_same fits (le32_getElem? d hk), s.pb_storePixels_other (le32 d)⟩
  · rw [exec_wrPbData, State.unlessBusy_of_frame _ inFrame]
    rfl

/-- Settles O13: MemWrite of the low byte of DATA while IDLE, BUSY_ERR otherwise. -/
theorem pixelByteWrite : Obligations.PixelByteWrite := by
  intro d s legal
  refine ⟨decode_packWrite (off := 0x30#8) d rfl, fun idle => ?_, fun inFrame => ?_⟩
  · rw [exec_wrPbData8, State.unlessBusy_of_idle _ idle]
    refine ⟨_, _, rfl, State.toNat_ofNat_mod_pixbufBytes legal _,
      s.pb_storePixels_same (k := 0) s.pixbufBytes_pos rfl, fun a other => ?_⟩
    refine s.pb_storePixels_other [d.setWidth 8] a fun k hk => ?_
    obtain rfl : k = 0 := Nat.lt_one_iff.1 hk
    exact other
  · rw [exec_wrPbData8, State.unlessBusy_of_frame _ inFrame]
    rfl

end Sys2Proof.Machine
end

section
/-! Host reads and writes of the other registers and of the reserved offsets (44_register_access.md R200 to R216 and R225 to
R230). -/

namespace Sys2Proof.Machine

/-! ### Reads -/

/-- Settles O1: each read answers its register through `respond`. -/
theorem argumentRegisterReads : Obligations.ArgumentRegisterReads := fun _ =>
  ⟨⟨decode_packRead (off := 0x0C#8) rfl, rfl⟩, ⟨decode_packRead (off := 0x10#8) rfl, rfl⟩,
    ⟨decode_packRead (off := 0x14#8) rfl, rfl⟩, ⟨decode_packRead (off := 0x18#8) rfl, rfl⟩,
    ⟨decode_packRead (off := 0x1C#8) rfl, rfl⟩, ⟨decode_packRead (off := 0x20#8) rfl, rfl⟩⟩

/-- Settles O2: each read answers its register, or the constant of R22, through `respond`. -/
theorem observationRegisterReads : Obligations.ObservationRegisterReads := fun _ =>
  ⟨⟨decode_packRead (off := 0x00#8) rfl, rfl⟩, ⟨decode_packRead (off := 0x24#8) rfl, rfl⟩,
    ⟨decode_packRead (off := 0x28#8) rfl, rfl⟩, ⟨decode_packRead (off := 0x44#8) rfl, rfl⟩,
    ⟨decode_packRead (off := 0x48#8) rfl, rfl⟩⟩

/-- Whichever of the four rows the offset is in, the read answers 0 (R229). -/
theorem exec_decodeReservedRead (off : Byte) (s : State) : exec (decodeReservedRead off) s = .next (s.respond 0#32) := by
  unfold decodeReservedRead
  split_ifs <;> rfl

/-- A number in the range of the reserved offsets is a byte. -/
theorem exists_byte_of_le_FC {off : Nat} (high : off ≤ 0xFC) : ∃ b : Byte, b.toNat = off :=
  ⟨BitVec.ofNat 8 off, by rw [BitVec.toNat_ofNat]; omega⟩

/-- Settles O3: the fixed words by evaluation, the reserved offsets by the decoder's ranges. -/
theorem writeOnlyAndReservedReadsReturnZero : Obligations.WriteOnlyAndReservedReadsReturnZero := by
  refine ⟨fun s => ⟨⟨decode_packRead (off := 0x04#8) rfl, rfl⟩, ⟨decode_packRead (off := 0x34#8) rfl, rfl⟩,
    ⟨decode_packRead (off := 0x38#8) rfl, rfl⟩, rfl, fun _ => ⟨rfl, rfl, rfl⟩⟩, fun off low high aligned => ?_⟩
  obtain ⟨off, rfl⟩ := exists_byte_of_le_FC high
  exact ⟨_, decode_packRead aligned, decodeRead_of_high low ▸ exec_decodeReservedRead off⟩

/-- The bits of STATUS by position: `BitVec.concat` appends the least significant bit, so each bit is reached by dropping
those below it (R203). -/
theorem statusBits_getLsbD (f : StatusFlags) (isBusy : Bool) :
    (statusBits f isBusy).getLsbD 0 = isBusy ∧ (statusBits f isBusy).getLsbD 1 = f.done ∧
    (statusBits f isBusy).getLsbD 2 = f.txFail ∧ (statusBits f isBusy).getLsbD 3 = f.lenErr ∧
    (statusBits f isBusy).getLsbD 4 = f.busyErr ∧ (statusBits f isBusy).getLsbD 5 = f.cmdErr ∧
    ∀ k, 6 ≤ k → (statusBits f isBusy).getLsbD k = false := by
  have concats : statusBits f isBusy = ((((((BitVec.ofBool f.cmdErr).concat f.busyErr).concat f.lenErr).concat
      f.txFail).concat f.done).concat isBusy).setWidth 32 := rfl
  simp only [concats, BitVec.getLsbD_setWidth]
  refine ⟨?_, ?_, ?_, ?_, ?_, ?_, fun k hk => ?_⟩
  case refine_7 => rw [BitVec.getLsbD_of_ge _ k hk, Bool.and_false]
  all_goals
    simp only [BitVec.getLsbD_concat_zero, BitVec.getLsbD_concat_succ, BitVec.getLsbD_ofBool, Nat.reduceLT, decide_true,
      Bool.true_and]

/-- Settles O4: BUSY is SEQ_STATE = FRAME, and the read answers through `respond`. -/
theorem statusReadReportsBusyAndFlags : Obligations.StatusReadReportsBusyAndFlags := by
  refine ⟨decode_packRead (off := 0x08#8) rfl, fun s => ⟨statusWord s, rfl, ?_⟩⟩
  obtain ⟨busyBit, flags⟩ := statusBits_getLsbD s.status (busy s)
  exact ⟨by rw [statusWord, busyBit, busy_eq_true], flags⟩

/-! ### Writes -/

theorem operand16_eq_setWidth (d : Word) : operand16 d = d.setWidth 16 :=
  (BitVec.setWidth_eq_extractLsb' (by decide)).symm

/-- Settles O7: each write stores its operand, the low bits of DATA. -/
theorem argumentRegisterWrites : Obligations.ArgumentRegisterWrites := by
  intro d s
  rw [← operand8_eq_setWidth, ← operand16_eq_setWidth]
  exact ⟨⟨decode_packWrite (off := 0x0C#8) d rfl, rfl⟩, ⟨decode_packWrite (off := 0x10#8) d rfl, rfl⟩,
    ⟨decode_packWrite (off := 0x14#8) d rfl, rfl⟩, ⟨decode_packWrite (off := 0x18#8) d rfl, rfl⟩,
    ⟨decode_packWrite (off := 0x1C#8) d rfl, rfl⟩, ⟨decode_packWrite (off := 0x20#8) d rfl, rfl⟩⟩

/-- Whichever of the four rows the offset is in, the write is ignored (R230). -/
theorem exec_decodeReservedWrite (off : Byte) (d : Word) (s : State) : exec (decodeReservedWrite off d) s = .next s := by
  unfold decodeReservedWrite
  split_ifs <;> rfl

/-- Settles O8: the fixed words by evaluation, the reserved offsets by the decoder's ranges. -/
theorem readOnlyAndReservedWritesAreIgnored : Obligations.ReadOnlyAndReservedWritesAreIgnored := by
  refine ⟨fun d s => ⟨⟨decode_packWrite (off := 0x00#8) d rfl, rfl⟩, ⟨decode_packWrite (off := 0x3C#8) d rfl, rfl⟩,
    ⟨decode_packWrite (off := 0x40#8) d rfl, rfl⟩, ⟨decode_packWrite (off := 0x44#8) d rfl, rfl⟩,
    ⟨decode_packWrite (off := 0x48#8) d rfl, rfl⟩, rfl, fun _ => ⟨rfl, rfl, rfl⟩⟩, fun off d low high aligned => ?_⟩
  obtain ⟨off, rfl⟩ := exists_byte_of_le_FC high
  exact ⟨_, decode_packWrite d aligned, decodeWrite_of_high d low ▸ exec_decodeReservedWrite off d⟩

/-- W1C of one flag: cleared where its DATA bit is 1, kept elsewhere (10_state.md R30). -/
theorem and_not_eq_ite (flag bit : Bool) : (flag && !bit) = if bit then false else flag := by
  cases bit
  · exact Bool.and_true flag
  · exact Bool.and_false flag

/-- Settles O9: the write is W1C of the flags. -/
theorem statusWriteClearsOnes : Obligations.StatusWriteClearsOnes := by
  intro d s
  simp only [← and_not_eq_ite]
  exact ⟨decode_packWrite (off := 0x08#8) d rfl, rfl⟩

end Sys2Proof.Machine
end

section
/-! The error flags one host transaction can raise (60_exceptions.md R248, R249). -/

namespace Sys2Proof.Machine

/-- Settles O20: each effect of an instruction that is refused raises its one error, and every other effect raises none. The
effects on TX_FAIL are `HostEffect.txFail_unset`. -/
theorem oneErrorPerTransaction : Obligations.OneErrorPerTransaction := by
  intro i s t h
  obtain ⟨u, hu, he⟩ := exec_effect i s
  cases hu.symm.trans h
  refine ⟨he.txFail_unset, ?_⟩
  cases he with
  | refusedLength | refusedBusy | reservedCommand =>
    -- The two flags of the other errors are not newly set, and the third counts at most 1.
    simp [StatusFlags.setError, StatusFlags.setDone, StatusFlags.clearResults, Bool.toNat_le]
  | clear d =>
    -- A W1C write only clears; `and_assoc` brings each flag beside its own negation.
    simp [StatusFlags.w1c, ← Bool.and_assoc]
  | start => simp [StatusFlags.clearResults]
  | _ => simp

end Sys2Proof.Machine
end

section
/-! Power-up and RST (70_reset_and_hazards.md R270 to R273). -/

namespace Sys2Proof.Machine

/-! ### After power-up -/

/-- Settles O51: each register by its reset value, the offer by SEQ_STATE. -/
theorem powerUpHoldsResetValues : Obligations.PowerUpHoldsResetValues :=
  ⟨rfl, rfl, rfl, rfl, rfl, rfl, rfl, rfl, rfl, rfl, rfl, rfl, rfl, rfl, rfl, rfl, offered_of_idle rfl⟩

theorem State.reset_config_legal : State.reset.config.Legal := by decide

/-- Power-up leaves the buffer as RST does. -/
theorem State.reset_bufferOk : State.reset.BufferOk :=
  (State.resetBlock_bufferOk (s := State.reset) State.reset_config_legal).of_eq rfl rfl rfl rfl

/-- Settles O59: no frame is in progress, so the invariant is the buffer's bounds. -/
theorem invariantAtReset : Obligations.InvariantAtReset := State.Inv.of_idle State.reset_bufferOk rfl

/-! ### The RST step -/

theorem step_reset {s : State} {rest : List Input} (hin : s.inputs = .reset :: rest) :
    step s = .next (s.setInputs rest).resetBlock := step_of_inputs hin

/-- R272: after RST no byte of the buffer is written, so each is the free value of the new reset count. -/
theorem State.resetBlock_pb (s : State) {a : Nat} (inside : a < s.pixbufBytes) :
    s.resetBlock.pb a = Config.pixbufInit (s.resets + 1) a :=
  State.pb_unwritten (s := s.resetBlock) inside (List.forall_mem_nil _)

/-- Settles O49: RST gives each register what it holds after power-up, and ID reads the same from every state. -/
theorem resetStepRestoresResetValues : Obligations.ResetStepRestoresResetValues := by
  intro s rest hin
  obtain ⟨-, channel, rectype, colorOrder, pixelCount, frequency, brightness, bufLen, pbAddr, crcState, lastCrc, txCount,
    seqState, seqPos, fc, frameCrc, -⟩ := powerUpHoldsResetValues
  obtain ⟨⟨-, readId⟩, -⟩ := observationRegisterReads (s.setInputs rest).resetBlock
  exact ⟨_, step_reset hin, rfl, channel, rectype, colorOrder, pixelCount, frequency, brightness, bufLen, pbAddr, crcState,
    lastCrc, txCount, seqState, seqPos, fc, frameCrc, readId⟩

/-- Settles O50: the bytes by `State.resetBlock_pb`, the offer by SEQ_STATE, and what RST keeps by its definition. -/
theorem resetDrawsPixelBufferAnew : Obligations.ResetDrawsPixelBufferAnew := fun s rest hin =>
  ⟨_, step_reset hin, rfl, fun _ inside => (s.setInputs rest).resetBlock_pb inside, offered_of_idle rfl, rfl, rfl, rfl, rfl⟩

end Sys2Proof.Machine
end
